-- ==== Sys2Proof/Word.lean ====
section
/-! DEFINITION. The word types of the block (R8 to R10 of spec/00_scope.md): a byte of `RAW` or `RGB`, a 16-bit
container, a 32-bit register, and one output pixel. -/

namespace Sys2Proof

/-- A byte of the memories `RAW` and `RGB` (R60). -/
abbrev Byte := BitVec 8

/-- A 16-bit container: a 10-bit Bayer sample, a `Y10` or `Y12` sample, a 15- or 16-bit RGB pixel (R60). -/
abbrev Half := BitVec 16

/-- A host-visible register or a command word (R22, R90). -/
abbrev Word := BitVec 32

/-- The three channels of one output pixel, each in `[0, 255]` (R232). -/
structure Rgb where
  r : Byte
  g : Byte
  b : Byte
deriving DecidableEq, Repr

end Sys2Proof
end

