-- ==== Sys2Proof/Syntax.lean ====
section
/-! DEFINITION. The instructions of the block, whole: one constructor per row of spec/opcode_table.json (R94, R96, R98),
and the names the rules use for formats, algorithms and depths. -/

namespace Sys2Proof

/-- The 33 recognised pixel formats (R96). -/
inductive Format where
  | yuyv
  | uyvy
  | nv12
  | nv21
  | nv16
  | yuv411p
  | yvu411p
  | yuv420p
  | yvu420p
  | yuv422p
  | yvu422p
  | yuv444p
  | yvu444p
  | grey8
  | y10
  | y12
  | rgb332
  | rgb555
  | rgb565
  | rgb555x
  | rgb565x
  | bgr24
  | rgb24
  | bgr32
  | rgb32
  | sgrbg8
  | srggb8
  | sbggr8
  | sgbrg8
  | sgrbg10
  | srggb10
  | sbggr10
  | sgbrg10
deriving DecidableEq, Repr

/-- The six demosaic algorithms of the registry, in list order (R31, R98). -/
inductive Alg where
  | cottnoip
  | cott
  | horip
  | ip
  | gptm
  | gptmFast
deriving DecidableEq, Repr

/-- The depth `N` of a Bayer sample: 8 or 10 significant bits (R14). -/
inductive Depth where
  | d8
  | d10
deriving DecidableEq, Repr

/-- The instructions. The first 37 are command words; the last eight are the kernel rows, matched on the 5-bit key of
R98 and run inside a Bayer `DECODE` (R300, R305). -/
inductive Instr where
  /-- `DECODE.YUYV`, R251. -/
  | yuyv
  /-- `DECODE.UYVY`, R252. -/
  | uyvy
  /-- `DECODE.NV12`, R253. -/
  | nv12
  /-- `DECODE.NV21`, R254. -/
  | nv21
  /-- `DECODE.NV16`, R255. -/
  | nv16
  /-- `DECODE.YUV411P`, R256. -/
  | yuv411p
  /-- `DECODE.YVU411P`, R257. -/
  | yvu411p
  /-- `DECODE.YUV420P`, R258. -/
  | yuv420p
  /-- `DECODE.YVU420P`, R259. -/
  | yvu420p
  /-- `DECODE.YUV422P`, R260. -/
  | yuv422p
  /-- `DECODE.YVU422P`, R261. -/
  | yvu422p
  /-- `DECODE.YUV444P`, R262. -/
  | yuv444p
  /-- `DECODE.YVU444P`, R263. -/
  | yvu444p
  /-- `DECODE.GREY8`, R281. -/
  | grey8
  /-- `DECODE.Y10`, R282. -/
  | y10
  /-- `DECODE.Y12`, R283. -/
  | y12
  /-- `DECODE.RGB332`, R284. -/
  | rgb332
  /-- `DECODE.RGB555`, R285. -/
  | rgb555
  /-- `DECODE.RGB565`, R286. -/
  | rgb565
  /-- `DECODE.RGB555X`, R287. -/
  | rgb555x
  /-- `DECODE.RGB565X`, R288. -/
  | rgb565x
  /-- `DECODE.BGR24`, R289. -/
  | bgr24
  /-- `DECODE.RGB24`, R290. -/
  | rgb24
  /-- `DECODE.BGR32`, R291. -/
  | bgr32
  /-- `DECODE.RGB32`, R292. -/
  | rgb32
  /-- `DECODE.SGRBG8`, R307. -/
  | sgrbg8
  /-- `DECODE.SRGGB8`, R308. -/
  | srggb8
  /-- `DECODE.SBGGR8`, R309. -/
  | sbggr8
  /-- `DECODE.SGBRG8`, R310. -/
  | sgbrg8
  /-- `DECODE.SGRBG10`, R311. -/
  | sgrbg10
  /-- `DECODE.SRGGB10`, R312. -/
  | srggb10
  /-- `DECODE.SBGGR10`, R313. -/
  | sbggr10
  /-- `DECODE.SGBRG10`, R314. -/
  | sgbrg10
  /-- `DECODE.FALLBACK`, R224. -/
  | fallback (tag : BitVec 8)
  /-- `SELECT`, R131. -/
  | select
  /-- `SETSHARP`, R135. -/
  | setsharp (value : Half)
  /-- `LIST`, R137. -/
  | list (idx : BitVec 8)
  /-- `cottnoip.8`, R156. -/
  | cottnoip8
  /-- `cottnoip.10`, R157. -/
  | cottnoip10
  /-- `cott.8`, R158. -/
  | cott8
  /-- `horip.8`, R160. -/
  | horip8
  /-- `ip.8`, R162. -/
  | ip8
  /-- `gptm.8`, R205. -/
  | gptm8
  /-- `gptm.10`, R206. -/
  | gptm10
  /-- `gptm_fast.8`, R208. -/
  | gptmFast8
deriving DecidableEq, Repr

/-- What the block decodes: the 32-bit word of a host write to `CMD` (R90), or the 5-bit kernel key formed from the
registry slot and the depth (R98). -/
inductive Code where
  | command (w : Word)
  | kernel (key : BitVec 5)
deriving DecidableEq, Repr

end Sys2Proof
end

