-- ==== Sys2Proof/Decode.lean ====
section
/-! DEFINITION. The decoder (R91, R94, R96, R98), total on every command word and every kernel key and rejecting by
name, and after it the encoder. The decoder reads the tag and id tables below; the encoder is written from the match
column of the opcode table, so that the two can disagree. -/

namespace Sys2Proof

/-- Why a code is no instruction. -/
inductive DecodeError where
  /-- `OPC` is none of 0x01 to 0x04 (R100). -/
  | unknownOpcode
  /-- `ARG` must be zero and is not (R91). -/
  | argNotZero
  /-- `IMM` must be zero and is not (R91). -/
  | immNotZero
  /-- No kernel has this key (R98, R305). -/
  | noKernelRow
deriving DecidableEq, Repr

/-- The format tag, `ARG` of the `DECODE` word (R96). -/
def Format.tag : Format → BitVec 8
  | .yuyv => 0x10#8
  | .uyvy => 0x11#8
  | .nv12 => 0x20#8
  | .nv21 => 0x21#8
  | .nv16 => 0x22#8
  | .yuv411p => 0x30#8
  | .yvu411p => 0x31#8
  | .yuv420p => 0x32#8
  | .yvu420p => 0x33#8
  | .yuv422p => 0x34#8
  | .yvu422p => 0x35#8
  | .yuv444p => 0x36#8
  | .yvu444p => 0x37#8
  | .grey8 => 0x40#8
  | .y10 => 0x41#8
  | .y12 => 0x42#8
  | .rgb332 => 0x50#8
  | .rgb555 => 0x51#8
  | .rgb565 => 0x52#8
  | .rgb555x => 0x53#8
  | .rgb565x => 0x54#8
  | .bgr24 => 0x55#8
  | .rgb24 => 0x56#8
  | .bgr32 => 0x57#8
  | .rgb32 => 0x58#8
  | .sgrbg8 => 0x60#8
  | .srggb8 => 0x61#8
  | .sbggr8 => 0x62#8
  | .sgbrg8 => 0x63#8
  | .sgrbg10 => 0x68#8
  | .srggb10 => 0x69#8
  | .sbggr10 => 0x6A#8
  | .sgbrg10 => 0x6B#8

/-- The 33 formats in the order of R96. -/
def allFormats : List Format :=
  [.yuyv, .uyvy, .nv12, .nv21, .nv16, .yuv411p, .yvu411p, .yuv420p,
   .yvu420p, .yuv422p, .yvu422p, .yuv444p, .yvu444p, .grey8, .y10, .y12,
   .rgb332, .rgb555, .rgb565, .rgb555x, .rgb565x, .bgr24, .rgb24, .bgr32,
   .rgb32, .sgrbg8, .srggb8, .sbggr8, .sgbrg8, .sgrbg10, .srggb10, .sbggr10,
   .sgbrg10]

/-- The format a tag names, `none` for the 223 unrecognised tags (R96, R101). -/
def Format.ofTag (t : BitVec 8) : Option Format :=
  allFormats.find? fun f => f.tag == t

/-- The `DECODE` instruction of a format (R94). -/
def Format.instr : Format → Instr
  | .yuyv => .yuyv
  | .uyvy => .uyvy
  | .nv12 => .nv12
  | .nv21 => .nv21
  | .nv16 => .nv16
  | .yuv411p => .yuv411p
  | .yvu411p => .yvu411p
  | .yuv420p => .yuv420p
  | .yvu420p => .yvu420p
  | .yuv422p => .yuv422p
  | .yvu422p => .yvu422p
  | .yuv444p => .yuv444p
  | .yvu444p => .yvu444p
  | .grey8 => .grey8
  | .y10 => .y10
  | .y12 => .y12
  | .rgb332 => .rgb332
  | .rgb555 => .rgb555
  | .rgb565 => .rgb565
  | .rgb555x => .rgb555x
  | .rgb565x => .rgb565x
  | .bgr24 => .bgr24
  | .rgb24 => .rgb24
  | .bgr32 => .bgr32
  | .rgb32 => .rgb32
  | .sgrbg8 => .sgrbg8
  | .srggb8 => .srggb8
  | .sbggr8 => .sbggr8
  | .sgbrg8 => .sgbrg8
  | .sgrbg10 => .sgrbg10
  | .srggb10 => .srggb10
  | .sbggr10 => .sbggr10
  | .sgbrg10 => .sgbrg10

/-- The 4-bit algorithm id of a registry slot (R31, R98). -/
def Alg.id : Alg → BitVec 4
  | .cottnoip => 0#4
  | .cott => 1#4
  | .horip => 2#4
  | .ip => 3#4
  | .gptm => 4#4
  | .gptmFast => 5#4

/-- The registry's entries in list order (R31). -/
def allAlgs : List Alg := [.cottnoip, .cott, .horip, .ip, .gptm, .gptmFast]

/-- The algorithm of a slot value; 0xF is "no kernel" and 6 to 14 are never produced (R27). -/
def Alg.ofId (i : BitVec 4) : Option Alg :=
  allAlgs.find? fun a => a.id == i

/-- The key of a kernel row: `id + 16 * d10` (R98). -/
def kernelKey (slot : BitVec 4) (d : Depth) : BitVec 5 :=
  match d with
  | .d8 => 0#1 ++ slot
  | .d10 => 1#1 ++ slot

/-- The eight kernels that exist, as (algorithm, depth) (R98, R305). -/
def hasKernel (a : Alg) (d : Depth) : Bool :=
  match a, d with
  | .cottnoip, .d8 | .cottnoip, .d10 => true
  | .cott, .d8 => true
  | .horip, .d8 => true
  | .ip, .d8 => true
  | .gptm, .d8 | .gptm, .d10 => true
  | .gptmFast, .d8 => true
  | .cott, .d10 | .horip, .d10 | .ip, .d10 | .gptmFast, .d10 => false

/-- The kernel row a key matches (R98). -/
def kernelRow (key : BitVec 5) : Option (Alg × Depth) :=
  let d : Depth := if key.extractLsb' 4 1 = 1#1 then .d10 else .d8
  match Alg.ofId (key.extractLsb' 0 4) with
  | some a => if hasKernel a d then some (a, d) else none
  | none => none

/-- The instruction of a kernel row (opcode table, format `K`). -/
def kernelInstr (a : Alg) (d : Depth) : Option Instr :=
  match a, d with
  | .cottnoip, .d8 => some .cottnoip8
  | .cottnoip, .d10 => some .cottnoip10
  | .cott, .d8 => some .cott8
  | .horip, .d8 => some .horip8
  | .ip, .d8 => some .ip8
  | .gptm, .d8 => some .gptm8
  | .gptm, .d10 => some .gptm10
  | .gptmFast, .d8 => some .gptmFast8
  | .cott, .d10 | .horip, .d10 | .ip, .d10 | .gptmFast, .d10 => none

/-- `DECODE` with tag `arg`: the row of its format, or the fallback row (R91, R101). -/
def decodeTag (arg : BitVec 8) : Instr :=
  match Format.ofTag arg with
  | some f => f.instr
  | none => .fallback arg

/-- The fields of a command word (R90). -/
def opcOf (w : Word) : BitVec 8 := w.extractLsb' 0 8

@[inherit_doc opcOf]
def argOf (w : Word) : BitVec 8 := w.extractLsb' 8 8

@[inherit_doc opcOf]
def immOf (w : Word) : BitVec 16 := w.extractLsb' 16 16

/-- Decoding a command word (R91). -/
def decodeCommandWord (w : Word) : Except DecodeError Instr :=
  match (opcOf w).toNat with
  | 1 => if immOf w = 0 then .ok (decodeTag (argOf w)) else .error .immNotZero
  | 2 =>
    if argOf w = 0 then if immOf w = 0 then .ok .select else .error .immNotZero
    else .error .argNotZero
  | 3 => if argOf w = 0 then .ok (.setsharp (immOf w)) else .error .argNotZero
  | 4 => if immOf w = 0 then .ok (.list (argOf w)) else .error .immNotZero
  | _ => .error .unknownOpcode

/-- Decoding a kernel key (R98). -/
def decodeKernelKey (key : BitVec 5) : Except DecodeError Instr :=
  match kernelRow key with
  | some (a, d) =>
    match kernelInstr a d with
    | some i => .ok i
    | none => .error .noKernelRow
  | none => .error .noKernelRow

/-- The decoder: every code is exactly one instruction or rejected by name (R91). -/
def decode : Code → Except DecodeError Instr
  | .command w => decodeCommandWord w
  | .kernel key => decodeKernelKey key

/-- A command word from its three fields (R90). -/
def commandWord (opc arg : BitVec 8) (imm : BitVec 16) : Word := imm ++ arg ++ opc

/-- The encoder, from the match column of the opcode table (R94, R96, R98). -/
def encode : Instr → Code
  | .yuyv => .command 0x00001001#32
  | .uyvy => .command 0x00001101#32
  | .nv12 => .command 0x00002001#32
  | .nv21 => .command 0x00002101#32
  | .nv16 => .command 0x00002201#32
  | .yuv411p => .command 0x00003001#32
  | .yvu411p => .command 0x00003101#32
  | .yuv420p => .command 0x00003201#32
  | .yvu420p => .command 0x00003301#32
  | .yuv422p => .command 0x00003401#32
  | .yvu422p => .command 0x00003501#32
  | .yuv444p => .command 0x00003601#32
  | .yvu444p => .command 0x00003701#32
  | .grey8 => .command 0x00004001#32
  | .y10 => .command 0x00004101#32
  | .y12 => .command 0x00004201#32
  | .rgb332 => .command 0x00005001#32
  | .rgb555 => .command 0x00005101#32
  | .rgb565 => .command 0x00005201#32
  | .rgb555x => .command 0x00005301#32
  | .rgb565x => .command 0x00005401#32
  | .bgr24 => .command 0x00005501#32
  | .rgb24 => .command 0x00005601#32
  | .bgr32 => .command 0x00005701#32
  | .rgb32 => .command 0x00005801#32
  | .sgrbg8 => .command 0x00006001#32
  | .srggb8 => .command 0x00006101#32
  | .sbggr8 => .command 0x00006201#32
  | .sgbrg8 => .command 0x00006301#32
  | .sgrbg10 => .command 0x00006801#32
  | .srggb10 => .command 0x00006901#32
  | .sbggr10 => .command 0x00006A01#32
  | .sgbrg10 => .command 0x00006B01#32
  | .fallback tag => .command (commandWord 0x01#8 tag 0#16)
  | .select => .command 0x00000002#32
  | .setsharp value => .command (commandWord 0x03#8 0#8 value)
  | .list idx => .command (commandWord 0x04#8 idx 0#16)
  | .cottnoip8 => .kernel 0x00#5
  | .cottnoip10 => .kernel 0x10#5
  | .cott8 => .kernel 0x01#5
  | .horip8 => .kernel 0x02#5
  | .ip8 => .kernel 0x03#5
  | .gptm8 => .kernel 0x04#5
  | .gptm10 => .kernel 0x14#5
  | .gptmFast8 => .kernel 0x05#5

/-- The code that the bits of an opcode-table row stand for: a `K` row has a 5-bit key and so one byte of bits, every
other row is one 32-bit command word whose unlisted high bits are 0 (R90, R98; log 5). -/
def codeOfBits (nbits w : Nat) : Option Code :=
  if nbits ≤ 8 then
    if w < 32 then some (.kernel (BitVec.ofNat 5 w)) else none
  else
    if w < 2 ^ 32 then some (.command (BitVec.ofNat 32 w)) else none

/-- The instruction the decoder reads from the bits of an opcode-table row. -/
def decodeTableWord (nbits w : Nat) : Option Instr :=
  match codeOfBits nbits w with
  | none => none
  | some c =>
    match decode c with
    | .ok i => some i
    | .error _ => none

end Sys2Proof
end

