-- ==== Sys2Proof/Config.lean ====
section
/-! DEFINITION. What an instance of the block fixes and what the spec leaves free: the power-on contents of the two
memories (R362: unspecified) and the sizes the reset state takes for the attached memories (R7: open parameters). -/

namespace Sys2Proof.Config

/-- FREE VALUE (log 2). The byte that `RAW` holds after power-on at an address nothing has written: "each byte has
some value in [0, 255], which a model takes as an arbitrary initial memory" (R362). -/
opaque rawPowerOn : Nat → Byte

/-- FREE VALUE (log 2). The byte that `RGB` holds after power-on at an address nothing has written (R362). -/
opaque rgbPowerOn : Nat → Byte

/-- DESIGN CHOICE (log 1). `RAW_SIZE` of the reset state: the largest the range of R7 allows. -/
def rawSizeAtReset : Word := 0xFFFFFFFF#32

/-- DESIGN CHOICE (log 1). `RGB_SIZE` of the reset state: the largest the range of R7 allows. -/
def rgbSizeAtReset : Word := 0xFFFFFFFF#32

end Sys2Proof.Config
end

