-- ==== Sys2Proof/Machine/State.lean ====
section
/-! DEFINITION. The machine's state as plain data (spec/10_state.md), the reasons a step can stop, and the state after
reset (R43, R360). -/

namespace Sys2Proof.Machine

/-- The phases of the scan pointer (R30). -/
inductive Phase where
  | idle
  | check
  | norm
  | kern
  | scan
deriving DecidableEq, Repr

/-- The scan pointer `SP = (phase, y, x)`, what this block has in place of a program counter (R30). -/
structure ScanPtr where
  phase : Phase
  y : Word
  x : Word
deriving DecidableEq, Repr

/-- The result codes that have a name (R321). `scratch` (`F_SCRATCH`) is reserved and never raised (R327, log 11). -/
inductive ResultCode where
  | ok
  | unknownAlg
  | geometry
  | buffer
  | noKernel
  | illegalCmd
  | listRange
  | scratch
deriving DecidableEq, Repr

/-- The fields of `STATUS` (R26). -/
structure Status where
  busy : Bool
  done : Bool
  halt : Bool
  warn : Bool
  result : ResultCode
deriving DecidableEq, Repr

/-- The warning codes of a `DIAG` entry (R334). -/
inductive DiagCode where
  | range
  | formatFallback
  | cfaPhase
deriving DecidableEq, Repr

/-- One entry `(code, x, y, value)` of the diagnostic log (R41). -/
structure DiagEntry where
  code : DiagCode
  x : Word
  y : Word
  value : Half
deriving DecidableEq, Repr

/-- One action of the host, the block's second agent (R20): a register access names the word index `offset / 4` of the
bank's port, 0x00 to 0x7C (R22), a memory access one byte address (R40), and `rst` is the reset input (R360). -/
inductive HostOp where
  | regWrite (index : BitVec 5) (value : Word)
  | regRead (index : BitVec 5)
  | rawWrite (addr : Word) (value : Byte)
  | rawRead (addr : Word)
  | rgbWrite (addr : Word) (value : Byte)
  | rgbRead (addr : Word)
  | rst
deriving DecidableEq, Repr

/-- A byte memory: the bytes written since power-on, addresses strictly rising. An unlisted address has not been
written and reads as the free power-on byte of Config (log 2). -/
abbrev Memory := List Host.Cell

/-- Everything the spec gives the machine (R42), the two sizes of the attached memories (R7, log 1), and the model's
own `port` and `rdata` (logs 3 and 6). -/
structure State where
  /-- `STATUS` (R26). -/
  status : Status
  /-- `CTRL` bits 1:0 (R24). -/
  ctrl : BitVec 2
  width : Word
  height : Word
  stride : Word
  rawLen : Word
  rgbLen : Word
  /-- `BRIGHTNESS` bits 15:0, an 8.8 fixed-point multiplier (R25). -/
  brightness : Half
  /-- `SHARPNESS` bits 15:0 (R28). -/
  sharpness : Half
  /-- `SEL.SEL8`, the 8-bit slot (R27). -/
  sel8 : BitVec 4
  /-- `SEL.SEL10`, the 10-bit slot (R27). -/
  sel10 : BitVec 4
  /-- `WARN_COUNT` (R33). -/
  warnCount : Word
  /-- `NAME0` .. `NAME3`, the name operand of `SELECT` (R29). -/
  name0 : Word
  name1 : Word
  name2 : Word
  name3 : Word
  /-- `LNAME0` .. `LNAME3`, the name result of `LIST` (R29). -/
  lname0 : Word
  lname1 : Word
  lname2 : Word
  lname3 : Word
  /-- `LFLAGS` bits 15:0 (R32). -/
  lflags : Half
  /-- The scan pointer (R30). -/
  sp : ScanPtr
  /-- The command word in flight, taken at the write of `CMD` (R73); 0 outside a command (log 4). -/
  cmd : Word
  /-- `RAW_SIZE`, a parameter: no step changes it (R7, log 1). -/
  rawSize : Word
  /-- `RGB_SIZE`, a parameter: no step changes it (R7, log 1). -/
  rgbSize : Word
  /-- The `RAW` memory (R40). -/
  raw : Memory
  /-- The `RGB` memory (R40). -/
  rgb : Memory
  /-- The diagnostic log, oldest entry first (R41). -/
  diag : List DiagEntry
  /-- The model's own: the host's pending actions, in order (log 3). -/
  port : List HostOp
  /-- The model's own: the word the last host read returned (log 6). -/
  rdata : Word
deriving DecidableEq, Repr

/-- Why a step stops with a fault. No command raises one: the traps of the block are result codes (R320). -/
inductive Fault where
  /-- Raised by a host access to a `RAW` byte at or beyond `RAW_SIZE`, an access the block's host port does not have
  (spec/93 row 6). Safe: the machine stops (log 7). -/
  | hostOutsideRaw
  /-- Raised by a host access to an `RGB` byte at or beyond `RGB_SIZE` (spec/93 row 6). Safe (log 7). -/
  | hostOutsideRgb
  /-- Raised by a pass that is started in a state in which no check has passed and whose plane or output lies outside
  the attached memories; after the checks of R226 to R228 it cannot happen (R68). Safe (log 8). -/
  | planeOutsideMemory
deriving DecidableEq, Repr

/-- Why an instruction has no meaning. -/
inductive Refusal where
  /-- Raised by an arm of `exec` whose instruction is not modelled; no arm does. Safe. -/
  | notModelled (mnemonic : String)
deriving DecidableEq, Repr

/-- `SP` outside a command (R30). -/
def ScanPtr.home : ScanPtr := ⟨.idle, 0, 0⟩

/-- The machine right after power-on reset (R43, R360, R361): registers at the values of R22, no byte of the memories
written (R362), sizes as in log 1. -/
def State.reset : State where
  status := ⟨false, false, false, false, .ok⟩
  ctrl := 0
  width := 0
  height := 0
  stride := 0
  rawLen := 0
  rgbLen := 0
  brightness := 0x0100#16
  sharpness := 0x8000#16
  sel8 := 4#4
  sel10 := 0#4
  warnCount := 0
  name0 := 0
  name1 := 0
  name2 := 0
  name3 := 0
  lname0 := 0
  lname1 := 0
  lname2 := 0
  lname3 := 0
  lflags := 0
  sp := ScanPtr.home
  cmd := 0
  rawSize := Config.rawSizeAtReset
  rgbSize := Config.rgbSizeAtReset
  raw := []
  rgb := []
  diag := []
  port := []
  rdata := 0

end Sys2Proof.Machine
end

