-- ==== Sys2Proof/Machine/Flags.lean ====
section
/-! DEFINITION. The flags of the block: the result codes and the `STATUS` register as a word (R26, R320, R321), and
the warning codes of the log (R334). No arithmetic of any path sets a flag (R26). -/

namespace Sys2Proof.Machine

/-- The 4-bit code of a result (R321). -/
def ResultCode.code : ResultCode → BitVec 4
  | .ok => 0#4
  | .unknownAlg => 1#4
  | .geometry => 2#4
  | .buffer => 3#4
  | .noKernel => 4#4
  | .illegalCmd => 5#4
  | .listRange => 6#4
  | .scratch => 7#4

/-- The fatal codes, 4 and 7 (R330). -/
def ResultCode.fatal : ResultCode → Bool
  | .noKernel | .scratch => true
  | .ok | .unknownAlg | .geometry | .buffer | .illegalCmd | .listRange => false

/-- `STATUS` as the host reads it: `BUSY` bit 0, `DONE` bit 1, `HALT` bit 2, `WARN` bit 3, `RESULT` bits 7:4 (R26). -/
def Status.word (f : Status) : Word :=
  0#24 ++ f.result.code ++ BitVec.ofBool f.warn ++ BitVec.ofBool f.halt ++ BitVec.ofBool f.done ++ BitVec.ofBool f.busy

/-- The code field of a log entry (R334). -/
def DiagCode.code : DiagCode → Nat
  | .range => 1
  | .formatFallback => 2
  | .cfaPhase => 3

/-- `STATUS` during a command, after its prologue (R330). -/
def Status.accepted (f : Status) : Status := { f with busy := true, done := false }

/-- `STATUS` after a command's epilogue with result `code`; `warned` says that the command is a `DECODE` that logged
(R330). -/
def Status.ended (f : Status) (code : ResultCode) (warned : Bool) : Status :=
  { busy := false, done := true, halt := f.halt || code.fatal, warn := warned, result := code }

end Sys2Proof.Machine
end

