-- ==== Sys2Proof/Machine/Ops.lean ====
section
/-! DEFINITION. The named operations over memories, the log and the status register that every meaning shares: byte
reads and writes (R11, R60), `diag` (R335), `emit` (R232), the raster pass (R236), and taking a trap: the prologue,
`raise` and epilogue of R330. -/

namespace Sys2Proof.Machine

/-! ### Byte memories -/

/-- The byte written at an address, if any. -/
def memFind : Memory → Nat → Option Byte
  | [], _ => none
  | (k, b) :: rest, a => if k = a then some b else memFind rest a

/-- Write one byte, keeping the addresses strictly rising. -/
def memStore : Memory → Nat → Byte → Memory
  | [], a, b => [(a, b)]
  | (k, c) :: rest, a, b =>
    if a < k then (a, b) :: (k, c) :: rest
    else if a = k then (a, b) :: rest
    else (k, c) :: memStore rest a b

/-- The canonical form: addresses strictly rising. An unlisted address has no written byte, so no listed byte can
repeat what an unlisted address holds (log 2). -/
abbrev Memory.wf (m : Memory) : Prop := m.Pairwise fun p q => p.1 < q.1

/-- `MemRead(RAW, a, 1)` (R11): the last byte written, else the power-on byte (R64, R362). -/
def readRaw (s : State) (a : Nat) : Byte := (memFind s.raw a).getD (Config.rawPowerOn a)

/-- The byte of `RGB` at `a`, as the host reads it (R40); the engine never reads `RGB` (R63). -/
def readRgb (s : State) (a : Nat) : Byte := (memFind s.rgb a).getD (Config.rgbPowerOn a)

/-- `MemWrite(RAW, a, 1, v)` (R11). -/
def writeRaw (a : Nat) (v : Byte) (s : State) : State := { s with raw := memStore s.raw a v }

/-- `MemWrite(RGB, a, 1, v)` (R11). -/
def writeRgb (a : Nat) (v : Byte) (s : State) : State := { s with rgb := memStore s.rgb a v }

/-- `MemRead(RAW, a, 2)`, little-endian (R11, R60). -/
def readRaw16 (s : State) (a : Nat) : Half := readRaw s (a + 1) ++ readRaw s a

/-- `MemReadBE(RAW, a, 2)`, big-endian (R11, R60). -/
def readRaw16BE (s : State) (a : Nat) : Half := readRaw s a ++ readRaw s (a + 1)

/-- `MemWrite(RAW, a, 2, v)`, little-endian (R11). -/
def writeRaw16 (a : Nat) (v : Half) (s : State) : State :=
  writeRaw (a + 1) (v.extractLsb' 8 8) (writeRaw a (v.extractLsb' 0 8) s)

/-! ### The diagnostic log -/

/-- `diag(code, x, y, value)`: append one entry and count it (R335). -/
def logDiag (code : DiagCode) (x y : Word) (value : Half) (s : State) : State :=
  { s with diag := s.diag ++ [⟨code, x, y, value⟩], warnCount := s.warnCount + 1 }

/-! ### Output -/

/-- `CTRL.SWAP_RB` (R24). -/
def swapRb (s : State) : Bool := s.ctrl.getLsbD 0

/-- `CTRL.HIGH_BITS` (R24). -/
def highBits (s : State) : Bool := s.ctrl.getLsbD 1

/-- The bytes an output pixel is stored as, lowest address first: R,G,B, or B,G,R when `SWAP_RB` is set (R232). -/
def storedOrder (swap : Bool) (p : Rgb) : Byte × Byte × Byte :=
  if swap then (p.b, p.g, p.r) else (p.r, p.g, p.b)

/-- The `RGB` address of the first byte of output pixel `(y, x)` (R67). -/
def pixelAddr (w y x : Nat) : Nat := 3 * (y * w + x)

/-- `emit(y, x, r, g, b)` (R232), the only writer of `RGB` and the only reader of `SWAP_RB`. -/
def emit (y x : Nat) (p : Rgb) (s : State) : State :=
  let a := pixelAddr s.width.toNat y x
  let q := storedOrder (swapRb s) p
  writeRgb (a + 2) q.2.2 (writeRgb (a + 1) q.2.1 (writeRgb a q.1 s))

/-- `SP <- (phase, y, x)` (R11). -/
def setSp (ph : Phase) (y x : Nat) (s : State) : State :=
  { s with sp := ⟨ph, BitVec.ofNat 32 y, BitVec.ofNat 32 x⟩ }

/-- The raster pass of R236 over `n` pixels from the `k`-th on, in a plane of width `w`: at each one `SP` moves and
the pixel is emitted. The pixel is a function of `(y, x)`: `RAW` is not written during a scan or kernel pass (R65,
log 12). -/
def paint (ph : Phase) (w : Nat) (pixel : Nat → Nat → Rgb) : Nat → Nat → State → State
  | 0, _, s => s
  | n + 1, k, s =>
    paint ph w pixel n (k + 1) (emit (k / w) (k % w) (pixel (k / w) (k % w)) (setSp ph (k / w) (k % w) s))

/-! ### Taking a trap: the mechanism of R330 -/

/-- The prologue of a command: `BUSY <- 1`, `DONE <- 0` (R330); the engine holds the word it took (R73). -/
def beginCommand (w : Word) (s : State) : State :=
  { s with status := s.status.accepted, cmd := w }

/-- The epilogue of a command, reached with `R_OK` at the end of its body or with the raised code (R330, R234): the
trap entry of this block. `WARN` is set only by a `DECODE` that ended with `R_OK` and logged. -/
def endCommand (isDecode : Bool) (code : ResultCode) (s : State) : State :=
  { s with
    sp := ScanPtr.home
    cmd := 0
    status := s.status.ended code (isDecode && decide (code = .ok) && decide (s.warnCount ≠ 0)) }

/-- A whole command (R330): ignored while `HALT = 1` (log 14), else prologue, body, epilogue. A body answers the state
it leaves and the code it ends with; `raise` is a code other than `R_OK`. -/
def runCommand (isDecode : Bool) (w : Word) (body : State → State × ResultCode) (s : State) : State :=
  if s.status.halt then s
  else endCommand isDecode (body (beginCommand w s)).2 (body (beginCommand w s)).1

/-- An illegal command word raises `E_ILLEGAL_CMD` before anything else is looked at (R100, R326). -/
def illegalCommand (w : Word) (s : State) : State := runCommand false w (fun t => (t, .illegalCmd)) s

/-- The reset input `rst` (R360): every register, `STATUS`, `SP` and `DIAG` as after power-on; `RAW` and `RGB` keep
their contents (R362), the attached sizes and the host's own pending actions stay. It acts between commands (R364,
log 9). -/
def applyRst (s : State) : State :=
  { State.reset with
    raw := s.raw, rgb := s.rgb, rawSize := s.rawSize, rgbSize := s.rgbSize, port := s.port }

end Sys2Proof.Machine
end

