-- ==== Sys2Proof/Machine/Operands.lean ====
section
/-! DEFINITION. The operand forms: the name operand and its packing (R29, R130), the registry entries (R31), the
geometry classes with their conditions and buffer sizes (R223, R226, R227, R228), the registry slots (R305), and the
Bayer samples with their containers (R302, R306). -/

namespace Sys2Proof.Machine

/-! ### Names and registry entries -/

/-- Register number `i` of the group `NAME0..3`. -/
def nameReg (s : State) : Nat → Word
  | 0 => s.name0
  | 1 => s.name1
  | 2 => s.name2
  | _ => s.name3

/-- Byte `n[i]` of the name operand: bits `8*(i%4)+7 : 8*(i%4)` of register `i/4` (R29). -/
def nameByte (s : State) (i : Nat) : Byte := (nameReg s (i / 4)).extractLsb' (8 * (i % 4)) 8

/-- The name operand, the 16 bytes `n[0..15]` (R93, R130). -/
def nameOperand (s : State) : List Byte := (List.range 16).map (nameByte s)

/-- The ASCII name of a registry entry (R31). -/
def algName : Alg → List Byte
  | .cottnoip => [0x63#8, 0x6F#8, 0x74#8, 0x74#8, 0x6E#8, 0x6F#8, 0x69#8, 0x70#8]
  | .cott => [0x63#8, 0x6F#8, 0x74#8, 0x74#8]
  | .horip => [0x68#8, 0x6F#8, 0x72#8, 0x69#8, 0x70#8]
  | .ip => [0x69#8, 0x70#8]
  | .gptm => [0x67#8, 0x70#8, 0x74#8, 0x6D#8]
  | .gptmFast => [0x67#8, 0x70#8, 0x74#8, 0x6D#8, 0x5F#8, 0x66#8, 0x61#8, 0x73#8, 0x74#8]

/-- Whether the entry has a 10-bit kernel (R31). Every entry has an 8-bit kernel. -/
def algHas10 (a : Alg) : Bool := hasKernel a .d10

/-- `pad(s)`: the bytes of a name followed by zero bytes up to 16 (R130). -/
def padName (n : List Byte) : List Byte := n ++ List.replicate (16 - n.length) 0#8

/-- Word `i` of a 16-byte string in the little-endian packing of R29. -/
def packedWord (n : List Byte) (i : Nat) : Word :=
  n.getD (4 * i + 3) 0 ++ n.getD (4 * i + 2) 0 ++ n.getD (4 * i + 1) 0 ++ n.getD (4 * i) 0

/-- `LFLAGS` of a listed entry: `1 + 2*has10 + 256*idx`, as its fields `INDEX`, `SUP10`, `SUP8` (R32, R137). -/
def listFlags (idx : BitVec 8) (a : Alg) : Half := idx ++ 0#6 ++ BitVec.ofBool (algHas10 a) ++ 1#1

/-- "No kernel" in a registry slot (R27). -/
def noKernelId : BitVec 4 := 0xF#4

/-! ### Formats, classes and geometry -/

/-- The classes of R223. -/
inductive Class where
  | pk422
  | sp420
  | sp422
  | pl411
  | pl420
  | pl422
  | pl444
  | mono8
  | mono16
  | rgb8
  | rgb16
  | rgb24
  | rgb32
  | bayer8
  | bayer10
deriving DecidableEq, Repr

/-- The class of a format (R223). -/
def classOf : Format → Class
  | .yuyv | .uyvy => .pk422
  | .nv12 | .nv21 => .sp420
  | .nv16 => .sp422
  | .yuv411p | .yvu411p => .pl411
  | .yuv420p | .yvu420p => .pl420
  | .yuv422p | .yvu422p => .pl422
  | .yuv444p | .yvu444p => .pl444
  | .grey8 => .mono8
  | .y10 | .y12 => .mono16
  | .rgb332 => .rgb8
  | .rgb555 | .rgb565 | .rgb555x | .rgb565x => .rgb16
  | .bgr24 | .rgb24 => .rgb24
  | .bgr32 | .rgb32 => .rgb32
  | .sgrbg8 | .srggb8 | .sbggr8 | .sgbrg8 => .bayer8
  | .sgrbg10 | .srggb10 | .sbggr10 | .sgbrg10 => .bayer10

/-- `P`, the bytes of one pixel of a single-plane class; `none` for a multi-plane class (R223). -/
def pixelBytes : Class → Option Nat
  | .pk422 => some 2
  | .mono8 => some 1
  | .mono16 => some 2
  | .rgb8 => some 1
  | .rgb16 => some 2
  | .rgb24 => some 3
  | .rgb32 => some 4
  | .bayer8 => some 1
  | .bayer10 => some 2
  | .sp420 | .sp422 | .pl411 | .pl420 | .pl422 | .pl444 => none

/-- The conditions of a class on `W` and `H` beyond both being positive (R223, R226). -/
def evenOk (c : Class) (w h : Nat) : Bool :=
  match c with
  | .pk422 | .sp422 | .pl422 => w % 2 == 0
  | .sp420 | .pl420 | .bayer8 | .bayer10 => w % 2 == 0 && h % 2 == 0
  | .pl411 => w % 4 == 0
  | .pl444 | .mono8 | .mono16 | .rgb8 | .rgb16 | .rgb24 | .rgb32 => true

/-- The condition of a class on `S` (R223, R226). -/
def strideOk (c : Class) (w st : Nat) : Bool :=
  match pixelBytes c with
  | some p => decide (p * w ≤ st) && (c != .bayer10 || st % 2 == 0)
  | none => st == w

/-- The geometry checks, step 4 (R226), on unbounded integers. -/
def geometryOk (c : Class) (w h st : Nat) : Bool :=
  w != 0 && h != 0 && evenOk c w h && strideOk c w st

/-- `src_need` (R223, R227). -/
def srcNeed (c : Class) (w h st : Nat) : Nat :=
  match c with
  | .sp420 => w * h + w * h / 2
  | .sp422 => 2 * w * h
  | .pl411 => w * h + 2 * (w / 4) * h
  | .pl420 => w * h + 2 * (w / 2) * (h / 2)
  | .pl422 => w * h + 2 * (w / 2) * h
  | .pl444 => 3 * w * h
  | .pk422 => (h - 1) * st + 2 * w
  | .mono8 | .rgb8 | .bayer8 => (h - 1) * st + w
  | .mono16 | .rgb16 | .bayer10 => (h - 1) * st + 2 * w
  | .rgb24 => (h - 1) * st + 3 * w
  | .rgb32 => (h - 1) * st + 4 * w

/-- `dst_need` (R228). -/
def dstNeed (w h : Nat) : Nat := 3 * w * h

/-- The geometry checks of class `c` on the registers of `s`. -/
def geometryHolds (c : Class) (s : State) : Bool :=
  geometryOk c s.width.toNat s.height.toNat s.stride.toNat

/-- `src_need` of class `c` for the registers of `s`. -/
def sourceBytes (c : Class) (s : State) : Nat :=
  srcNeed c s.width.toNat s.height.toNat s.stride.toNat

/-- `dst_need` for the registers of `s`. -/
def outputBytes (s : State) : Nat := dstNeed s.width.toNat s.height.toNat

/-- The buffer checks, step 5 (R228). -/
def buffersHold (c : Class) (s : State) : Bool :=
  decide (s.rawLen.toNat ≤ s.rawSize.toNat) && decide (s.rgbLen.toNat ≤ s.rgbSize.toNat) &&
    decide (sourceBytes c s ≤ s.rawLen.toNat) && decide (outputBytes s ≤ s.rgbLen.toNat)

/-- The number of pixels of the plane. -/
def pixelCount (s : State) : Nat := s.width.toNat * s.height.toNat

/-! ### Bayer tags -/

/-- The CFA phase a Bayer tag declares (R301). -/
inductive CfaPhase where
  | grbg
  | rggb
  | bggr
  | gbrg
deriving DecidableEq, Repr

/-- The depth and declared phase of a Bayer format, `none` for every other format (R96, R307 to R314). -/
def bayerTag : Format → Option (Depth × CfaPhase)
  | .sgrbg8 => some (.d8, .grbg)
  | .srggb8 => some (.d8, .rggb)
  | .sbggr8 => some (.d8, .bggr)
  | .sgbrg8 => some (.d8, .gbrg)
  | .sgrbg10 => some (.d10, .grbg)
  | .srggb10 => some (.d10, .rggb)
  | .sbggr10 => some (.d10, .bggr)
  | .sgbrg10 => some (.d10, .gbrg)
  | .yuyv | .uyvy | .nv12 | .nv21 | .nv16 | .yuv411p | .yvu411p | .yuv420p | .yvu420p | .yuv422p | .yvu422p
  | .yuv444p | .yvu444p | .grey8 | .y10 | .y12 | .rgb332 | .rgb555 | .rgb565 | .rgb555x | .rgb565x | .bgr24
  | .rgb24 | .bgr32 | .rgb32 => none

/-- The class of the Bayer tags of a depth (R223). -/
def bayerClass : Depth → Class
  | .d8 => .bayer8
  | .d10 => .bayer10

/-- The registry slot used for a depth (R305). -/
def slotFor (d : Depth) (s : State) : BitVec 4 :=
  match d with
  | .d8 => s.sel8
  | .d10 => s.sel10

/-- The largest sample of a depth, `2^N - 1`. -/
def maxSample : Depth → Nat
  | .d8 => 255
  | .d10 => 1023

/-- The address of sample `(y, x)`: `y*S + P*x` (R303, R306). -/
def sampleAddr (d : Depth) (s : State) (y x : Nat) : Nat :=
  match d with
  | .d8 => y * s.stride.toNat + x
  | .d10 => y * s.stride.toNat + 2 * x

/-- `raw(y, x)`: the container of sample `(y, x)` as it stands in `RAW` (R306). -/
def sample (d : Depth) (s : State) (y x : Nat) : Nat :=
  match d with
  | .d8 => (readRaw s (sampleAddr .d8 s y x)).toNat
  | .d10 => (readRaw16 s (sampleAddr .d10 s y x)).toNat

/-- `MemWrite(RAW, y*S + P*x, P, v)`: store a sample in its container (R303). -/
def writeSample (d : Depth) (y x v : Nat) (s : State) : State :=
  match d with
  | .d8 => writeRaw (sampleAddr .d8 s y x) (BitVec.ofNat 8 v) s
  | .d10 => writeRaw16 (sampleAddr .d10 s y x) (BitVec.ofNat 16 v) s

/-- `sh`, the precision shift (R302). -/
def precisionShift (d : Depth) (s : State) : Nat :=
  match d with
  | .d8 => 0
  | .d10 => if highBits s then 6 else 0

/-- Whether the plane of a depth and its output lie inside the attached memories. The checks of R226 to R228 give it
(R68); a pass started without them is guarded by it (log 8). -/
def planeFits (c : Class) (s : State) : Bool :=
  s.width == 0 || s.height == 0 ||
    (decide (sourceBytes c s ≤ s.rawSize.toNat) && decide (outputBytes s ≤ s.rgbSize.toNat))

end Sys2Proof.Machine
end

