-- ==== Sys2Proof/Machine/Csc.lean ====
section
/-! DEFINITION. The colorspace converter, unit CSC (spec/40_csc.md): one pure function of three bytes. -/

namespace Sys2Proof.Machine

/-- `a >> k` on integers, the floor also for negative `a` (R9). -/
def floorShift (a : Int) (k : Nat) : Int := a / (2 ^ k : Nat)

/-- `clip8(x) = max(0, min(255, x))` (R9). -/
def clip8 (v : Int) : Byte := BitVec.ofNat 8 (max 0 (min 255 v)).toNat

/-- The numerator of the red channel, before the shift (R120). -/
def redNum (y _u v : Byte) : Int := 298 * ((y.toNat : Int) - 16) + 409 * ((v.toNat : Int) - 128) + 128

/-- The numerator of the green channel (R120). -/
def greenNum (y u v : Byte) : Int :=
  298 * ((y.toNat : Int) - 16) - 100 * ((u.toNat : Int) - 128) - 208 * ((v.toNat : Int) - 128) + 128

/-- The numerator of the blue channel (R120). -/
def blueNum (y u _v : Byte) : Int := 298 * ((y.toNat : Int) - 16) + 516 * ((u.toNat : Int) - 128) + 128

/-- `yuv_to_rgb(y, u, v)` with `u` the Cb and `v` the Cr sample (R120). -/
def yuvToRgb (y u v : Byte) : Rgb where
  r := clip8 (floorShift (redNum y u v) 8)
  g := clip8 (floorShift (greenNum y u v) 8)
  b := clip8 (floorShift (blueNum y u v) 8)

end Sys2Proof.Machine
end

