-- ==== Sys2Proof/Machine/Demosaic.lean ====
section
/-! DEFINITION. The demosaic kernels, part 1, unit DEM (spec/42_demosaic_nearest_bilinear.md): the common CFA, border
and mean rules, and the kernels `cottnoip`, `cott`, `horip`, `ip`. -/

namespace Sys2Proof.Machine

/-! ### Common rules -/

/-- The kinds of a site (R150). -/
inductive SiteKind where
  | gr
  | r
  | b
  | gb
deriving DecidableEq, Repr

/-- The kind of site `(y, x)` in the one fixed phase GRBG (R150). -/
def siteKind (y x : Nat) : SiteKind :=
  if y % 2 = 0 then (if x % 2 = 0 then .gr else .r) else (if x % 2 = 0 then .b else .gb)

/-- `m(c, d, n)`: the position `c + d`, mirrored through `c` when it lies outside `[0, n)` (R152). -/
def mirror (c : Nat) (d : Int) (n : Nat) : Nat :=
  if 0 ≤ (c : Int) + d ∧ (c : Int) + d < n then ((c : Int) + d).toNat
  else if 0 ≤ (c : Int) - d ∧ (c : Int) - d < n then ((c : Int) - d).toNat
  else c

/-- `nb(y, x, dy, dx)`: a neighbour through the border rule (R152). -/
def nb (d : Depth) (s : State) (y x : Nat) (dy dx : Int) : Nat :=
  sample d s (mirror y dy s.height.toNat) (mirror x dx s.width.toNat)

/-- The mean of two samples, a tie rounded up (R153). -/
def avg2 (a b : Nat) : Nat := (a + b + 1) / 2

/-- The mean of four samples, a tie rounded up (R153). -/
def avg4 (a b c d : Nat) : Nat := (a + b + c + d + 2) / 4

/-- `out8(v) = v >> (N - 8)` (R154), for `v` in the sample domain `[0, 2^N - 1]`. DESIGN CHOICE (log 15): a value above
1023 at depth 10, which only a kernel row run on its own over containers that no normalisation pass has clamped can
have, keeps bits 9:2; no `DECODE` meets it (R303). -/
def out8 (d : Depth) (v : Nat) : Byte :=
  match d with
  | .d8 => BitVec.ofNat 8 v
  | .d10 => BitVec.ofNat 8 (v / 4)

/-- The output pixel of three values in the sample domain (R154). -/
def outPixel (d : Depth) (r g b : Nat) : Rgb := ⟨out8 d r, out8 d g, out8 d b⟩

/-! ### The kernels: the output pixel of a site -/

/-- `cottnoip`: nearest neighbour with offset (R156, R157). -/
def cottnoipPixel (d : Depth) (s : State) (y x : Nat) : Rgb :=
  let c := sample d s y x
  let h := nb d s y x 0 1
  let v := nb d s y x 1 0
  let q := nb d s y x 1 1
  match siteKind y x with
  | .gr => outPixel d h c v
  | .r => outPixel d c h q
  | .b => outPixel d q h c
  | .gb => outPixel d v c h

/-- `cott`: half-pixel-shifted bilinear (R158). -/
def cottPixel (d : Depth) (s : State) (y x : Nat) : Rgb :=
  let c := sample d s y x
  let h := nb d s y x 0 1
  let v := nb d s y x 1 0
  let q := nb d s y x 1 1
  match siteKind y x with
  | .gr => outPixel d h (avg2 c q) v
  | .r => outPixel d c (avg2 h v) q
  | .b => outPixel d q (avg2 h v) c
  | .gb => outPixel d v (avg2 c q) h

/-- `yp`, the partner row of `horip`: the row below, above for the last row (R160). -/
def partnerRow (y h : Nat) : Nat := if y + 1 < h then y + 1 else y - 1

/-- `horip`: horizontal-only bilinear (R160). -/
def horipPixel (d : Depth) (s : State) (y x : Nat) : Rgb :=
  let w := s.width.toNat
  let yp := partnerRow y s.height.toNat
  let c := sample d s y x
  let l := nb d s y x 0 (-1)
  let rt := nb d s y x 0 1
  let pc := sample d s yp x
  let pl := sample d s yp (mirror x (-1) w)
  let pr := sample d s yp (mirror x 1 w)
  match siteKind y x with
  | .gr => outPixel d (avg2 l rt) c pc
  | .r => outPixel d c (avg2 l rt) (avg2 pl pr)
  | .b => outPixel d (avg2 pl pr) (avg2 l rt) c
  | .gb => outPixel d pc c (avg2 l rt)

/-- `ip`: full bilinear (R162). -/
def ipPixel (d : Depth) (s : State) (y x : Nat) : Rgb :=
  let c := sample d s y x
  let hor := avg2 (nb d s y x 0 (-1)) (nb d s y x 0 1)
  let ver := avg2 (nb d s y x (-1) 0) (nb d s y x 1 0)
  let orth := avg4 (nb d s y x (-1) 0) (nb d s y x 1 0) (nb d s y x 0 (-1)) (nb d s y x 0 1)
  let diag := avg4 (nb d s y x (-1) (-1)) (nb d s y x (-1) 1) (nb d s y x 1 (-1)) (nb d s y x 1 1)
  match siteKind y x with
  | .gr => outPixel d hor c ver
  | .r => outPixel d c orth diag
  | .b => outPixel d diag orth c
  | .gb => outPixel d ver c hor

/-! ### A kernel as an instruction -/

/-- A kernel pass over the whole plane: every site in raster order, one `emit` each (R155). -/
def kernelPass (pixel : State → Nat → Nat → Rgb) (s : State) : State :=
  paint .kern s.width.toNat (pixel s) (pixelCount s) 0 s

/-- A kernel row run on its own: the pass, where the plane and the output lie inside the memories (R68, log 8). -/
def runKernelRow (d : Depth) (pixel : State → Nat → Nat → Rgb) (s : State) : Host.Outcome State Fault Refusal :=
  if planeFits (bayerClass d) s then .next (kernelPass pixel s) else .fault .planeOutsideMemory

/-- `cottnoip.8` (R156). -/
def execCottnoip8 (s : State) : Host.Outcome State Fault Refusal := runKernelRow .d8 (cottnoipPixel .d8) s

/-- `cottnoip.10` (R157). -/
def execCottnoip10 (s : State) : Host.Outcome State Fault Refusal := runKernelRow .d10 (cottnoipPixel .d10) s

/-- `cott.8` (R158). -/
def execCott8 (s : State) : Host.Outcome State Fault Refusal := runKernelRow .d8 (cottPixel .d8) s

/-- `horip.8` (R160). -/
def execHorip8 (s : State) : Host.Outcome State Fault Refusal := runKernelRow .d8 (horipPixel .d8) s

/-- `ip.8` (R162). -/
def execIp8 (s : State) : Host.Outcome State Fault Refusal := runKernelRow .d8 (ipPixel .d8) s

end Sys2Proof.Machine
end

