-- ==== Sys2Proof/Machine/Gptm.lean ====
section
/-! DEFINITION. The demosaic kernels, part 2, unit DEM (spec/43_demosaic_gptm.md): the adaptive algorithms `gptm` and
`gptm_fast`. -/

namespace Sys2Proof.Machine

/-- The six weights (R200): `wrg` is red on green, and so on. -/
structure Weights where
  rg : Nat
  bg : Nat
  gr : Nat
  br : Nat
  gb : Nat
  rb : Nat
deriving DecidableEq, Repr

/-- The base constants, which are also the fixed weights of `gptm_fast` (R200, R202). -/
def baseWeights : Weights := ⟨144, 160, 120, 192, 120, 168⟩

/-- `f(s) = (s * s) >> 16` (R201). -/
def sharpSquare (v : Nat) : Nat := v * v / 65536

/-- A weight from its base constant and `wu`, as a 10-bit fixed-point number (R201). -/
def scaledWeight (k wu : Nat) : Nat := min 1023 (k * wu / 1024)

/-- The weights of `gptm` from `SHARPNESS` (R201). -/
def gptmWeights (sharp : Half) : Weights :=
  let wu := sharpSquare (sharpSquare sharp.toNat)
  ⟨scaledWeight baseWeights.rg wu, scaledWeight baseWeights.bg wu, scaledWeight baseWeights.gr wu,
    scaledWeight baseWeights.br wu, scaledWeight baseWeights.gb wu, scaledWeight baseWeights.rb wu⟩

/-- The sum of the four diagonal neighbours (R205). -/
def diagSum (d : Depth) (s : State) (y x : Nat) : Nat :=
  nb d s y x (-1) (-1) + nb d s y x (-1) 1 + nb d s y x 1 (-1) + nb d s y x 1 1

/-- The sum of the four samples two steps away along the row and the column (R203). -/
def farSum (d : Depth) (s : State) (y x : Nat) : Nat :=
  nb d s y x (-2) 0 + nb d s y x 2 0 + nb d s y x 0 (-2) + nb d s y x 0 2

/-- `D`, the detail term of a site: four times the centre less its four nearest samples of the same channel (R203). -/
def detail (d : Depth) (s : State) (y x : Nat) : Int :=
  match siteKind y x with
  | .gr | .gb => 4 * (sample d s y x : Int) - diagSum d s y x
  | .r | .b => 4 * (sample d s y x : Int) - farSum d s y x

/-- `clipN(v) = max(0, min(2^N - 1, v))` (R9). -/
def clipSample (d : Depth) (v : Int) : Nat := (max 0 (min (maxSample d : Int) v)).toNat

/-- `est2(l2, w)`: the estimate from a sum of two samples, blended with the detail term in one rounding (R204). -/
def est2 (d : Depth) (l2 w : Nat) (dt : Int) : Nat := clipSample d (floorShift (512 * (l2 : Int) + w * dt + 512) 10)

/-- `est4(l4, w)`: the estimate from a sum of four samples (R204). -/
def est4 (d : Depth) (l4 w : Nat) (dt : Int) : Nat := clipSample d (floorShift (256 * (l4 : Int) + w * dt + 512) 10)

/-- The adaptive estimate of a site with the weights `k` (R205). -/
def adaptivePixel (k : Weights) (d : Depth) (s : State) (y x : Nat) : Rgb :=
  let c := sample d s y x
  let dt := detail d s y x
  let h2 := nb d s y x 0 (-1) + nb d s y x 0 1
  let v2 := nb d s y x (-1) 0 + nb d s y x 1 0
  let o4 := h2 + v2
  let d4 := diagSum d s y x
  match siteKind y x with
  | .gr => outPixel d (est2 d h2 k.rg dt) c (est2 d v2 k.bg dt)
  | .r => outPixel d c (est4 d o4 k.gr dt) (est4 d d4 k.br dt)
  | .b => outPixel d (est4 d d4 k.rb dt) (est4 d o4 k.gb dt) c
  | .gb => outPixel d (est2 d v2 k.rg dt) c (est2 d h2 k.bg dt)

/-- `gptm`: the adaptive estimate with the weights of `SHARPNESS` (R205, R206). -/
def gptmPixel (d : Depth) (s : State) (y x : Nat) : Rgb := adaptivePixel (gptmWeights s.sharpness) d s y x

/-- `gptm_fast`: the same with the fixed weights; it does not read `SHARPNESS` (R202, R208). -/
def gptmFastPixel (d : Depth) (s : State) (y x : Nat) : Rgb := adaptivePixel baseWeights d s y x

/-- `gptm.8` (R205). -/
def execGptm8 (s : State) : Host.Outcome State Fault Refusal := runKernelRow .d8 (gptmPixel .d8) s

/-- `gptm.10` (R206). -/
def execGptm10 (s : State) : Host.Outcome State Fault Refusal := runKernelRow .d10 (gptmPixel .d10) s

/-- `gptm_fast.8` (R208). -/
def execGptmFast8 (s : State) : Host.Outcome State Fault Refusal := runKernelRow .d8 (gptmFastPixel .d8) s

end Sys2Proof.Machine
end

