-- ==== Sys2Proof/Machine/Bayer.lean ====
section
/-! DEFINITION. The Bayer path (spec/47_dispatcher_bayer.md): the in-place normalisation pass (R303), the range
warning (R304), and the kernel pass through the registry slot (R305, R306). -/

namespace Sys2Proof.Machine

/-- `v1`, a container after the precision shift (R303). -/
def shifted (sh v0 : Nat) : Nat := v0 / 2 ^ sh

/-- `v2 = clipN((v1 * B) >> 8)` (R303). -/
def scaled (d : Depth) (bright v1 : Nat) : Nat := min (maxSample d) (v1 * bright / 256)

/-- Whether the shifted value of a sample is out of range: a 10-bit decode and `v1 > 1023` (R304). -/
def outOfRange (d : Depth) (v1 : Nat) : Bool :=
  match d with
  | .d8 => false
  | .d10 => decide (1023 < v1)

/-- `v1` of sample `(y, x)` as it stands (R303). -/
def shiftedSample (d : Depth) (s : State) (y x : Nat) : Nat := shifted (precisionShift d s) (sample d s y x)

/-- `v2` of sample `(y, x)` as it stands (R303). -/
def normalised (d : Depth) (s : State) (y x : Nat) : Nat := scaled d s.brightness.toNat (shiftedSample d s y x)

/-- The range warning of a sample, if it is due (R304). -/
def rangeWarning (d : Depth) (y x : Nat) (s : State) : State :=
  if outOfRange d (shiftedSample d s y x) then
    logDiag .range (BitVec.ofNat 32 x) (BitVec.ofNat 32 y) (BitVec.ofNat 16 (shiftedSample d s y x)) s
  else s

/-- `normalise(y, x)` (R303). -/
def normalise (d : Depth) (y x : Nat) (s : State) : State :=
  writeSample d y x (normalised d s y x) (rangeWarning d y x s)

/-- The normalisation pass of R300 over `n` samples from the `k`-th on, in a plane of width `w`. -/
def normPass (d : Depth) (w : Nat) : Nat → Nat → State → State
  | 0, _, s => s
  | n + 1, k, s => normPass d w n (k + 1) (normalise d (k / w) (k % w) (setSp .norm (k / w) (k % w) s))

/-- The output pixel of each algorithm at a depth; the pairs with no kernel do not occur (R305). -/
def kernelPixel (a : Alg) (d : Depth) : State → Nat → Nat → Rgb :=
  match a with
  | .cottnoip => cottnoipPixel d
  | .cott => cottPixel d
  | .horip => horipPixel d
  | .ip => ipPixel d
  | .gptm => gptmPixel d
  | .gptmFast => gptmFastPixel d

/-- The kernel a Bayer decode of depth `d` runs: the row its key matches, `none` when the slot holds no kernel
(R98, R305; log 10 for the values that no rule produces). -/
def selectedKernel (d : Depth) (s : State) : Option Alg := (kernelRow (kernelKey (slotFor d s) d)).map Prod.fst

/-- Pass 2: run the selected kernel over the plane (R300, R306). The kernel check of R225 has passed. -/
def reconstruct (d : Depth) (s : State) : State :=
  match selectedKernel d s with
  | some a => kernelPass (kernelPixel a d) s
  | none => s

/-- The two passes of a Bayer decode (R300): the whole normalisation before the first kernel read. -/
def bayerPath (d : Depth) (s : State) : State :=
  reconstruct d (normPass d s.width.toNat (pixelCount s) 0 s)

end Sys2Proof.Machine
end

