-- ==== Sys2Proof/Machine/RgbMono.lean ====
section
/-! DEFINITION. The fetch functions of the twelve monochrome and packed RGB formats
(spec/46_dispatcher_rgb_mono.md). -/

namespace Sys2Proof.Machine

/-- The byte of pixel `(y, x)` of a single-plane format with `p` bytes per pixel (R280). -/
def planeAddr (s : State) (p y x : Nat) : Nat := y * s.stride.toNat + p * x

/-- A pixel whose three channels are one value (R281). -/
def greyPixel (v : Byte) : Rgb := ⟨v, v, v⟩

/-- `fetch_GREY8` (R281). -/
def fetchGrey8 (s : State) (y x : Nat) : Rgb := greyPixel (readRaw s (planeAddr s 1 y x))

/-- `fetch_Y10`: shift by 2, then clamp (R282). -/
def fetchY10 (s : State) (y x : Nat) : Rgb :=
  greyPixel (BitVec.ofNat 8 (min 255 ((readRaw16 s (planeAddr s 2 y x)).toNat / 4)))

/-- `fetch_Y12`: shift by 4, then clamp (R283). -/
def fetchY12 (s : State) (y x : Nat) : Rgb :=
  greyPixel (BitVec.ofNat 8 (min 255 ((readRaw16 s (planeAddr s 2 y x)).toNat / 16)))

/-! Field expansion (R293): a field of `k` bits stands in the high bits of the byte, the low bits are 0. -/

/-- A 2-bit field (R293). -/
def expand2 (f : BitVec 2) : Byte := f ++ 0#6

/-- A 3-bit field (R293). -/
def expand3 (f : BitVec 3) : Byte := f ++ 0#5

/-- A 5-bit field (R293). -/
def expand5 (f : BitVec 5) : Byte := f ++ 0#3

/-- A 6-bit field (R293). -/
def expand6 (f : BitVec 6) : Byte := f ++ 0#2

/-- The pixel of an RGB 3-3-2 byte: red in bits 7:5, green in bits 4:2, blue in bits 1:0 (R284). -/
def rgb332Pixel (p : Byte) : Rgb := ⟨expand3 (p.extractLsb' 5 3), expand3 (p.extractLsb' 2 3), expand2 (p.extractLsb' 0 2)⟩

/-- The pixel of a 15-bit word: red in bits 14:10, green in bits 9:5, blue in bits 4:0; bit 15 is ignored (R285). -/
def rgb555Pixel (p : Half) : Rgb := ⟨expand5 (p.extractLsb' 10 5), expand5 (p.extractLsb' 5 5), expand5 (p.extractLsb' 0 5)⟩

/-- The pixel of a 16-bit word: red in bits 15:11, green in bits 10:5, blue in bits 4:0 (R286). -/
def rgb565Pixel (p : Half) : Rgb := ⟨expand5 (p.extractLsb' 11 5), expand6 (p.extractLsb' 5 6), expand5 (p.extractLsb' 0 5)⟩

/-- `fetch_RGB332` (R284). -/
def fetchRgb332 (s : State) (y x : Nat) : Rgb := rgb332Pixel (readRaw s (planeAddr s 1 y x))

/-- `fetch_RGB555`, little-endian (R285). -/
def fetchRgb555 (s : State) (y x : Nat) : Rgb := rgb555Pixel (readRaw16 s (planeAddr s 2 y x))

/-- `fetch_RGB565`, little-endian (R286). -/
def fetchRgb565 (s : State) (y x : Nat) : Rgb := rgb565Pixel (readRaw16 s (planeAddr s 2 y x))

/-- `fetch_RGB555X`, big-endian (R287). -/
def fetchRgb555x (s : State) (y x : Nat) : Rgb := rgb555Pixel (readRaw16BE s (planeAddr s 2 y x))

/-- `fetch_RGB565X`, big-endian (R288). -/
def fetchRgb565x (s : State) (y x : Nat) : Rgb := rgb565Pixel (readRaw16BE s (planeAddr s 2 y x))

/-- `fetch_BGR24`: bytes blue, green, red (R289). -/
def fetchBgr24 (s : State) (y x : Nat) : Rgb :=
  let a := planeAddr s 3 y x
  ⟨readRaw s (a + 2), readRaw s (a + 1), readRaw s a⟩

/-- `fetch_RGB24`: bytes red, green, blue (R290). -/
def fetchRgb24 (s : State) (y x : Nat) : Rgb :=
  let a := planeAddr s 3 y x
  ⟨readRaw s a, readRaw s (a + 1), readRaw s (a + 2)⟩

/-- `fetch_BGR32`: bytes blue, green, red, pad; the pad byte is not read (R291). -/
def fetchBgr32 (s : State) (y x : Nat) : Rgb :=
  let a := planeAddr s 4 y x
  ⟨readRaw s (a + 2), readRaw s (a + 1), readRaw s a⟩

/-- `fetch_RGB32`: bytes pad, red, green, blue; the pad byte is not read (R292). -/
def fetchRgb32 (s : State) (y x : Nat) : Rgb :=
  let a := planeAddr s 4 y x
  ⟨readRaw s (a + 1), readRaw s (a + 2), readRaw s (a + 3)⟩

end Sys2Proof.Machine
end

