-- ==== Sys2Proof/Machine/Yuv.lean ====
section
/-! DEFINITION. The fetch functions of the thirteen YUV formats (spec/45_dispatcher_yuv.md): the luma, Cb and Cr
sample of a pixel, and the pixel they convert to. -/

namespace Sys2Proof.Machine

/-- The samples of one pixel: luma, `u` the Cb and `v` the Cr sample (R14, R250). -/
structure Yuv where
  y : Byte
  u : Byte
  v : Byte
deriving DecidableEq, Repr

/-- The pixel of fetched samples (R250). -/
def Yuv.toRgb (p : Yuv) : Rgb := yuvToRgb p.y p.u p.v

/-- The luma sample of a multi-plane format: the plane at 0 with row pitch `W` (R253, R256). -/
def lumaAt (s : State) (y x : Nat) : Byte := readRaw s (y * s.width.toNat + x)

/-- `fetch_YUYV`: groups `Y0 U Y1 V` (R251). -/
def fetchYuyv (s : State) (y x : Nat) : Yuv :=
  let g := y * s.stride.toNat + 4 * (x / 2)
  ⟨readRaw s (g + 2 * (x % 2)), readRaw s (g + 1), readRaw s (g + 3)⟩

/-- `fetch_UYVY`: groups `U Y0 V Y1` (R252). -/
def fetchUyvy (s : State) (y x : Nat) : Yuv :=
  let g := y * s.stride.toNat + 4 * (x / 2)
  ⟨readRaw s (g + 1 + 2 * (x % 2)), readRaw s g, readRaw s (g + 2)⟩

/-- `fetch_NV12`: one chroma plane at half resolution both ways, pairs `Cb, Cr` (R253). -/
def fetchNv12 (s : State) (y x : Nat) : Yuv :=
  let w := s.width.toNat
  let c := pixelCount s + y / 2 * w + 2 * (x / 2)
  ⟨lumaAt s y x, readRaw s c, readRaw s (c + 1)⟩

/-- `fetch_NV21`: pairs `Cr, Cb` (R254). -/
def fetchNv21 (s : State) (y x : Nat) : Yuv :=
  let w := s.width.toNat
  let c := pixelCount s + y / 2 * w + 2 * (x / 2)
  ⟨lumaAt s y x, readRaw s (c + 1), readRaw s c⟩

/-- `fetch_NV16`: one chroma plane at half horizontal resolution, pairs `Cb, Cr` (R255). -/
def fetchNv16 (s : State) (y x : Nat) : Yuv :=
  let w := s.width.toNat
  let c := pixelCount s + y * w + 2 * (x / 2)
  ⟨lumaAt s y x, readRaw s c, readRaw s (c + 1)⟩

/-- `fetch_YUV411P`: planes Y, Cb, Cr, chroma at quarter horizontal resolution (R256). -/
def fetchYuv411p (s : State) (y x : Nat) : Yuv :=
  let n := pixelCount s
  let i := y * (s.width.toNat / 4) + x / 4
  ⟨lumaAt s y x, readRaw s (n + i), readRaw s (n + n / 4 + i)⟩

/-- `fetch_YVU411P`: planes Y, Cr, Cb (R257). -/
def fetchYvu411p (s : State) (y x : Nat) : Yuv :=
  let n := pixelCount s
  let i := y * (s.width.toNat / 4) + x / 4
  ⟨lumaAt s y x, readRaw s (n + n / 4 + i), readRaw s (n + i)⟩

/-- `fetch_YUV420P`: planes Y, Cb, Cr, chroma at half resolution both ways (R258). -/
def fetchYuv420p (s : State) (y x : Nat) : Yuv :=
  let n := pixelCount s
  let i := y / 2 * (s.width.toNat / 2) + x / 2
  ⟨lumaAt s y x, readRaw s (n + i), readRaw s (n + n / 4 + i)⟩

/-- `fetch_YVU420P`: planes Y, Cr, Cb (R259). -/
def fetchYvu420p (s : State) (y x : Nat) : Yuv :=
  let n := pixelCount s
  let i := y / 2 * (s.width.toNat / 2) + x / 2
  ⟨lumaAt s y x, readRaw s (n + n / 4 + i), readRaw s (n + i)⟩

/-- `fetch_YUV422P`: planes Y, Cb, Cr, chroma at half horizontal resolution (R260). -/
def fetchYuv422p (s : State) (y x : Nat) : Yuv :=
  let n := pixelCount s
  let i := y * (s.width.toNat / 2) + x / 2
  ⟨lumaAt s y x, readRaw s (n + i), readRaw s (n + n / 2 + i)⟩

/-- `fetch_YVU422P`: planes Y, Cr, Cb (R261). -/
def fetchYvu422p (s : State) (y x : Nat) : Yuv :=
  let n := pixelCount s
  let i := y * (s.width.toNat / 2) + x / 2
  ⟨lumaAt s y x, readRaw s (n + n / 2 + i), readRaw s (n + i)⟩

/-- `fetch_YUV444P`: planes Y, Cb, Cr at full resolution (R262). -/
def fetchYuv444p (s : State) (y x : Nat) : Yuv :=
  let n := pixelCount s
  let i := y * s.width.toNat + x
  ⟨readRaw s i, readRaw s (n + i), readRaw s (2 * n + i)⟩

/-- `fetch_YVU444P`: planes Y, Cr, Cb (R263). -/
def fetchYvu444p (s : State) (y x : Nat) : Yuv :=
  let n := pixelCount s
  let i := y * s.width.toNat + x
  ⟨readRaw s i, readRaw s (2 * n + i), readRaw s (n + i)⟩

end Sys2Proof.Machine
end

