-- ==== Sys2Proof/Machine/Dispatcher.lean ====
section
/-! DEFINITION. The pixel-format dispatcher, unit DSP, common part of `DECODE` (spec/44_dispatcher_common.md): resolve
the tag, check, commit, run the path (R221). -/

namespace Sys2Proof.Machine

/-- `resolve(arg)`: the format and whether it is the fallback's (R222, R224). -/
def resolve (arg : BitVec 8) : Format × Bool :=
  match Format.ofTag arg with
  | some f => (f, false)
  | none => (.yuyv, true)

/-- The kernel check, step 6: a Bayer tag whose slot holds no kernel (R225, R305). -/
def kernelMissing (f : Format) (s : State) : Bool :=
  match bayerTag f with
  | some (d, _) => (selectedKernel d s).isNone
  | none => false

/-- Steps 4 to 6 in their order: the code of the first check that fails (R221, R226, R228, R225, R333). -/
def decodeCheck (f : Format) (s : State) : Option ResultCode :=
  if !geometryHolds (classOf f) s then some .geometry
  else if !buffersHold (classOf f) s then some .buffer
  else if kernelMissing f s then some .noKernel
  else none

/-- Step 9: the phase warning of a Bayer tag whose declared phase is not GRBG (R301). -/
def phaseWarning (f : Format) (arg : BitVec 8) (s : State) : State :=
  match bayerTag f with
  | some (_, .grbg) => s
  | some (_, .rggb) | some (_, .bggr) | some (_, .gbrg) => logDiag .cfaPhase 0 0 (0#8 ++ arg) s
  | none => s

/-- Step 8: the fallback warning (R224). -/
def fallbackWarning (fellBack : Bool) (arg : BitVec 8) (s : State) : State :=
  if fellBack then logDiag .formatFallback 0 0 (0#8 ++ arg) s else s

/-- Steps 7 to 9: `WARN_COUNT <- 0`, then the warnings of the tag (R229). -/
def commit (f : Format) (fellBack : Bool) (arg : BitVec 8) (s : State) : State :=
  phaseWarning f arg (fallbackWarning fellBack arg { s with warnCount := 0 })

/-- The pixel of each scanned format: the fetch of the format's own rule and, for YUV, its conversion
(R237, R250, R280). A Bayer format is not scanned. -/
def scanPixel (f : Format) (s : State) (y x : Nat) : Rgb :=
  match f with
  | .yuyv => (fetchYuyv s y x).toRgb
  | .uyvy => (fetchUyvy s y x).toRgb
  | .nv12 => (fetchNv12 s y x).toRgb
  | .nv21 => (fetchNv21 s y x).toRgb
  | .nv16 => (fetchNv16 s y x).toRgb
  | .yuv411p => (fetchYuv411p s y x).toRgb
  | .yvu411p => (fetchYvu411p s y x).toRgb
  | .yuv420p => (fetchYuv420p s y x).toRgb
  | .yvu420p => (fetchYvu420p s y x).toRgb
  | .yuv422p => (fetchYuv422p s y x).toRgb
  | .yvu422p => (fetchYvu422p s y x).toRgb
  | .yuv444p => (fetchYuv444p s y x).toRgb
  | .yvu444p => (fetchYvu444p s y x).toRgb
  | .grey8 => fetchGrey8 s y x
  | .y10 => fetchY10 s y x
  | .y12 => fetchY12 s y x
  | .rgb332 => fetchRgb332 s y x
  | .rgb555 => fetchRgb555 s y x
  | .rgb565 => fetchRgb565 s y x
  | .rgb555x => fetchRgb555x s y x
  | .rgb565x => fetchRgb565x s y x
  | .bgr24 => fetchBgr24 s y x
  | .rgb24 => fetchRgb24 s y x
  | .bgr32 => fetchBgr32 s y x
  | .rgb32 => fetchRgb32 s y x
  | .sgrbg8 | .srggb8 | .sbggr8 | .sgbrg8 | .sgrbg10 | .srggb10 | .sbggr10 | .sgbrg10 => ⟨0, 0, 0⟩

/-- The scan of a YUV, monochrome or RGB format (R250, R280). -/
def scanPath (f : Format) (s : State) : State :=
  paint .scan s.width.toNat (scanPixel f s) (pixelCount s) 0 s

/-- Step 10: the path of a format (R237). -/
def runPath (f : Format) (s : State) : State :=
  match bayerTag f with
  | some (d, _) => bayerPath d s
  | none => scanPath f s

/-- Steps 2 to 10 of `DECODE` (R221): the state the body leaves and the code it ends with. -/
def decodeBody (arg : BitVec 8) (s : State) : State × ResultCode :=
  match decodeCheck (resolve arg).1 (setSp .check 0 0 s) with
  | some code => (setSp .check 0 0 s, code)
  | none => (runPath (resolve arg).1 (commit (resolve arg).1 (resolve arg).2 arg (setSp .check 0 0 s)), .ok)

/-- The command word of `DECODE` with tag `arg` (R94). -/
def decodeWord (arg : BitVec 8) : Word := commandWord 0x01#8 arg 0#16

/-- `DECODE` with tag `arg`, whole (R220, R221, R330). -/
def decodeCommand (arg : BitVec 8) (s : State) : State := runCommand true (decodeWord arg) (decodeBody arg) s

end Sys2Proof.Machine
end

