-- ==== Sys2Proof/Machine/DecodeRows.lean ====
section
/-! DEFINITION. The meanings of the 34 `DECODE` rows of the opcode table, one definition each: the common steps of
R221 for the row's tag, which fix its class, its fetch or its two passes, and its warnings. -/

namespace Sys2Proof.Machine

/-- `DECODE.YUYV`, R251. -/
def execYuyv (s : State) : Host.Outcome State Fault Refusal := .next (decodeCommand Format.yuyv.tag s)

/-- `DECODE.UYVY`, R252. -/
def execUyvy (s : State) : Host.Outcome State Fault Refusal := .next (decodeCommand Format.uyvy.tag s)

/-- `DECODE.NV12`, R253. -/
def execNv12 (s : State) : Host.Outcome State Fault Refusal := .next (decodeCommand Format.nv12.tag s)

/-- `DECODE.NV21`, R254. -/
def execNv21 (s : State) : Host.Outcome State Fault Refusal := .next (decodeCommand Format.nv21.tag s)

/-- `DECODE.NV16`, R255. -/
def execNv16 (s : State) : Host.Outcome State Fault Refusal := .next (decodeCommand Format.nv16.tag s)

/-- `DECODE.YUV411P`, R256. -/
def execYuv411p (s : State) : Host.Outcome State Fault Refusal := .next (decodeCommand Format.yuv411p.tag s)

/-- `DECODE.YVU411P`, R257. -/
def execYvu411p (s : State) : Host.Outcome State Fault Refusal := .next (decodeCommand Format.yvu411p.tag s)

/-- `DECODE.YUV420P`, R258. -/
def execYuv420p (s : State) : Host.Outcome State Fault Refusal := .next (decodeCommand Format.yuv420p.tag s)

/-- `DECODE.YVU420P`, R259. -/
def execYvu420p (s : State) : Host.Outcome State Fault Refusal := .next (decodeCommand Format.yvu420p.tag s)

/-- `DECODE.YUV422P`, R260. -/
def execYuv422p (s : State) : Host.Outcome State Fault Refusal := .next (decodeCommand Format.yuv422p.tag s)

/-- `DECODE.YVU422P`, R261. -/
def execYvu422p (s : State) : Host.Outcome State Fault Refusal := .next (decodeCommand Format.yvu422p.tag s)

/-- `DECODE.YUV444P`, R262. -/
def execYuv444p (s : State) : Host.Outcome State Fault Refusal := .next (decodeCommand Format.yuv444p.tag s)

/-- `DECODE.YVU444P`, R263. -/
def execYvu444p (s : State) : Host.Outcome State Fault Refusal := .next (decodeCommand Format.yvu444p.tag s)

/-- `DECODE.GREY8`, R281. -/
def execGrey8 (s : State) : Host.Outcome State Fault Refusal := .next (decodeCommand Format.grey8.tag s)

/-- `DECODE.Y10`, R282. -/
def execY10 (s : State) : Host.Outcome State Fault Refusal := .next (decodeCommand Format.y10.tag s)

/-- `DECODE.Y12`, R283. -/
def execY12 (s : State) : Host.Outcome State Fault Refusal := .next (decodeCommand Format.y12.tag s)

/-- `DECODE.RGB332`, R284. -/
def execRgb332 (s : State) : Host.Outcome State Fault Refusal := .next (decodeCommand Format.rgb332.tag s)

/-- `DECODE.RGB555`, R285. -/
def execRgb555 (s : State) : Host.Outcome State Fault Refusal := .next (decodeCommand Format.rgb555.tag s)

/-- `DECODE.RGB565`, R286. -/
def execRgb565 (s : State) : Host.Outcome State Fault Refusal := .next (decodeCommand Format.rgb565.tag s)

/-- `DECODE.RGB555X`, R287. -/
def execRgb555x (s : State) : Host.Outcome State Fault Refusal := .next (decodeCommand Format.rgb555x.tag s)

/-- `DECODE.RGB565X`, R288. -/
def execRgb565x (s : State) : Host.Outcome State Fault Refusal := .next (decodeCommand Format.rgb565x.tag s)

/-- `DECODE.BGR24`, R289. -/
def execBgr24 (s : State) : Host.Outcome State Fault Refusal := .next (decodeCommand Format.bgr24.tag s)

/-- `DECODE.RGB24`, R290. -/
def execRgb24 (s : State) : Host.Outcome State Fault Refusal := .next (decodeCommand Format.rgb24.tag s)

/-- `DECODE.BGR32`, R291. -/
def execBgr32 (s : State) : Host.Outcome State Fault Refusal := .next (decodeCommand Format.bgr32.tag s)

/-- `DECODE.RGB32`, R292. -/
def execRgb32 (s : State) : Host.Outcome State Fault Refusal := .next (decodeCommand Format.rgb32.tag s)

/-- `DECODE.SGRBG8`, R307. -/
def execSgrbg8 (s : State) : Host.Outcome State Fault Refusal := .next (decodeCommand Format.sgrbg8.tag s)

/-- `DECODE.SRGGB8`, R308. -/
def execSrggb8 (s : State) : Host.Outcome State Fault Refusal := .next (decodeCommand Format.srggb8.tag s)

/-- `DECODE.SBGGR8`, R309. -/
def execSbggr8 (s : State) : Host.Outcome State Fault Refusal := .next (decodeCommand Format.sbggr8.tag s)

/-- `DECODE.SGBRG8`, R310. -/
def execSgbrg8 (s : State) : Host.Outcome State Fault Refusal := .next (decodeCommand Format.sgbrg8.tag s)

/-- `DECODE.SGRBG10`, R311. -/
def execSgrbg10 (s : State) : Host.Outcome State Fault Refusal := .next (decodeCommand Format.sgrbg10.tag s)

/-- `DECODE.SRGGB10`, R312. -/
def execSrggb10 (s : State) : Host.Outcome State Fault Refusal := .next (decodeCommand Format.srggb10.tag s)

/-- `DECODE.SBGGR10`, R313. -/
def execSbggr10 (s : State) : Host.Outcome State Fault Refusal := .next (decodeCommand Format.sbggr10.tag s)

/-- `DECODE.SGBRG10`, R314. -/
def execSgbrg10 (s : State) : Host.Outcome State Fault Refusal := .next (decodeCommand Format.sgbrg10.tag s)

/-- `DECODE.FALLBACK`, R224: the tag is decoded as `YUYV` with the fallback warning (log 13 for a recognised tag). -/
def execFallback (tag : BitVec 8) (s : State) : Host.Outcome State Fault Refusal := .next (decodeCommand tag s)

end Sys2Proof.Machine
end

