-- ==== Sys2Proof/Machine/Registry.lean ====
section
/-! DEFINITION. The demosaic registry, unit REG (spec/41_registry.md): `SELECT`, `SETSHARP`, `LIST`. -/

namespace Sys2Proof.Machine

/-- The entry whose padded name equals the name operand in all 16 bytes (R130); at most one does. -/
def matchingEntry (s : State) : Option Alg :=
  allAlgs.find? fun a => decide (padName (algName a) = nameOperand s)

/-- What a successful `SELECT` of an entry writes: both slots (R131). -/
def selectEntry (a : Alg) (s : State) : State :=
  { s with sel8 := a.id, sel10 := if algHas10 a then a.id else noKernelId }

/-- The body of `SELECT` (R131, R132). -/
def selectBody (s : State) : State × ResultCode :=
  match matchingEntry s with
  | some a => (selectEntry a s, .ok)
  | none => (s, .unknownAlg)

/-- `SELECT` (R131). -/
def execSelect (s : State) : Host.Outcome State Fault Refusal :=
  .next (runCommand false (commandWord 0x02#8 0#8 0#16) selectBody s)

/-- The body of `SETSHARP` (R135). -/
def setSharpBody (value : Half) (s : State) : State × ResultCode := ({ s with sharpness := value }, .ok)

/-- `SETSHARP` with its 16-bit immediate (R135). -/
def execSetsharp (value : Half) (s : State) : Host.Outcome State Fault Refusal :=
  .next (runCommand false (commandWord 0x03#8 0#8 value) (setSharpBody value) s)

/-- What `LIST` of an entry writes: `LNAME0..3` and `LFLAGS` (R137). -/
def listEntry (idx : BitVec 8) (a : Alg) (s : State) : State :=
  { s with
    lname0 := packedWord (padName (algName a)) 0
    lname1 := packedWord (padName (algName a)) 1
    lname2 := packedWord (padName (algName a)) 2
    lname3 := packedWord (padName (algName a)) 3
    lflags := listFlags idx a }

/-- The body of `LIST` (R137, R138): entry number `idx`, or `E_LIST_RANGE` for an index of 6 or more. -/
def listBody (idx : BitVec 8) (s : State) : State × ResultCode :=
  match allAlgs[idx.toNat]? with
  | some a => (listEntry idx a s, .ok)
  | none => (s, .listRange)

/-- `LIST` with its 8-bit index (R137). -/
def execList (idx : BitVec 8) (s : State) : Host.Outcome State Fault Refusal :=
  .next (runCommand false (commandWord 0x04#8 idx 0#16) (listBody idx) s)

end Sys2Proof.Machine
end

