-- ==== Sys2Proof/Machine/Dispatch.lean ====
section
/-! DEFINITION. What each instruction does: one arm per constructor, one meaning each. -/

namespace Sys2Proof.Machine

def exec (i : Instr) (s : State) : Host.Outcome State Fault Refusal :=
  match i with
  | .yuyv => Sys2Proof.Machine.execYuyv s
  | .uyvy => Sys2Proof.Machine.execUyvy s
  | .nv12 => Sys2Proof.Machine.execNv12 s
  | .nv21 => Sys2Proof.Machine.execNv21 s
  | .nv16 => Sys2Proof.Machine.execNv16 s
  | .yuv411p => Sys2Proof.Machine.execYuv411p s
  | .yvu411p => Sys2Proof.Machine.execYvu411p s
  | .yuv420p => Sys2Proof.Machine.execYuv420p s
  | .yvu420p => Sys2Proof.Machine.execYvu420p s
  | .yuv422p => Sys2Proof.Machine.execYuv422p s
  | .yvu422p => Sys2Proof.Machine.execYvu422p s
  | .yuv444p => Sys2Proof.Machine.execYuv444p s
  | .yvu444p => Sys2Proof.Machine.execYvu444p s
  | .grey8 => Sys2Proof.Machine.execGrey8 s
  | .y10 => Sys2Proof.Machine.execY10 s
  | .y12 => Sys2Proof.Machine.execY12 s
  | .rgb332 => Sys2Proof.Machine.execRgb332 s
  | .rgb555 => Sys2Proof.Machine.execRgb555 s
  | .rgb565 => Sys2Proof.Machine.execRgb565 s
  | .rgb555x => Sys2Proof.Machine.execRgb555x s
  | .rgb565x => Sys2Proof.Machine.execRgb565x s
  | .bgr24 => Sys2Proof.Machine.execBgr24 s
  | .rgb24 => Sys2Proof.Machine.execRgb24 s
  | .bgr32 => Sys2Proof.Machine.execBgr32 s
  | .rgb32 => Sys2Proof.Machine.execRgb32 s
  | .sgrbg8 => Sys2Proof.Machine.execSgrbg8 s
  | .srggb8 => Sys2Proof.Machine.execSrggb8 s
  | .sbggr8 => Sys2Proof.Machine.execSbggr8 s
  | .sgbrg8 => Sys2Proof.Machine.execSgbrg8 s
  | .sgrbg10 => Sys2Proof.Machine.execSgrbg10 s
  | .srggb10 => Sys2Proof.Machine.execSrggb10 s
  | .sbggr10 => Sys2Proof.Machine.execSbggr10 s
  | .sgbrg10 => Sys2Proof.Machine.execSgbrg10 s
  | .fallback tag => Sys2Proof.Machine.execFallback tag s
  | .select => Sys2Proof.Machine.execSelect s
  | .setsharp value => Sys2Proof.Machine.execSetsharp value s
  | .list idx => Sys2Proof.Machine.execList idx s
  | .cottnoip8 => Sys2Proof.Machine.execCottnoip8 s
  | .cottnoip10 => Sys2Proof.Machine.execCottnoip10 s
  | .cott8 => Sys2Proof.Machine.execCott8 s
  | .horip8 => Sys2Proof.Machine.execHorip8 s
  | .ip8 => Sys2Proof.Machine.execIp8 s
  | .gptm8 => Sys2Proof.Machine.execGptm8 s
  | .gptm10 => Sys2Proof.Machine.execGptm10 s
  | .gptmFast8 => Sys2Proof.Machine.execGptmFast8 s

end Sys2Proof.Machine
end

