-- ==== Sys2Proof/Machine/HostPort.lean ====
section
/-! DEFINITION. The host's side of the block: the register bank as the port shows it (R22), the memory ports (R40), and
the reset input (R360). A write of `CMD` issues a command and is no plain register write: the sequencer takes it. -/

namespace Sys2Proof.Machine

/-- The registers of the bank (R22). -/
inductive Reg where
  | cmd
  | status
  | ctrl
  | width
  | height
  | stride
  | rawLen
  | rgbLen
  | brightness
  | sharpness
  | sel
  | warnCount
  | name0
  | name1
  | name2
  | name3
  | lname0
  | lname1
  | lname2
  | lname3
  | lflags
  | nalg
  /-- Offsets 0x58 to 0x7C. -/
  | reserved
deriving DecidableEq, Repr

/-- The register at word index `offset / 4` (R22). -/
def regAt (index : BitVec 5) : Reg :=
  match index.toNat with
  | 0 => .cmd
  | 1 => .status
  | 2 => .ctrl
  | 3 => .width
  | 4 => .height
  | 5 => .stride
  | 6 => .rawLen
  | 7 => .rgbLen
  | 8 => .brightness
  | 9 => .sharpness
  | 10 => .sel
  | 11 => .warnCount
  | 12 => .name0
  | 13 => .name1
  | 14 => .name2
  | 15 => .name3
  | 16 => .lname0
  | 17 => .lname1
  | 18 => .lname2
  | 19 => .lname3
  | 20 => .lflags
  | 21 => .nalg
  | _ => .reserved

/-- What a host read of a register returns: unimplemented bits, `CMD` and reserved offsets read 0 (R22). -/
def readReg (r : Reg) (s : State) : Word :=
  match r with
  | .cmd => 0
  | .status => s.status.word
  | .ctrl => 0#30 ++ s.ctrl
  | .width => s.width
  | .height => s.height
  | .stride => s.stride
  | .rawLen => s.rawLen
  | .rgbLen => s.rgbLen
  | .brightness => 0#16 ++ s.brightness
  | .sharpness => 0#16 ++ s.sharpness
  | .sel => 0#24 ++ s.sel10 ++ s.sel8
  | .warnCount => s.warnCount
  | .name0 => s.name0
  | .name1 => s.name1
  | .name2 => s.name2
  | .name3 => s.name3
  | .lname0 => s.lname0
  | .lname1 => s.lname1
  | .lname2 => s.lname2
  | .lname3 => s.lname3
  | .lflags => 0#16 ++ s.lflags
  | .nalg => 6#32
  | .reserved => 0

/-- A host write of a register that takes it: only implemented bits are kept, writes to read-only and reserved offsets
are ignored (R22). -/
def storeReg (r : Reg) (v : Word) (s : State) : State :=
  match r with
  | .ctrl => { s with ctrl := v.extractLsb' 0 2 }
  | .width => { s with width := v }
  | .height => { s with height := v }
  | .stride => { s with stride := v }
  | .rawLen => { s with rawLen := v }
  | .rgbLen => { s with rgbLen := v }
  | .brightness => { s with brightness := v.extractLsb' 0 16 }
  | .name0 => { s with name0 := v }
  | .name1 => { s with name1 := v }
  | .name2 => { s with name2 := v }
  | .name3 => { s with name3 := v }
  | .cmd | .status | .sharpness | .sel | .warnCount | .lname0 | .lname1 | .lname2 | .lname3 | .lflags | .nalg
  | .reserved => s

/-- A host write of a register other than `CMD`: ignored while `HALT = 1` (R332). -/
def writeReg (r : Reg) (v : Word) (s : State) : State :=
  if s.status.halt then s else storeReg r v s

/-- A host access, `CMD` writes apart (R22, R40, R332, R360); a memory access at or beyond the attached size does not
exist (log 7). -/
def hostAccess (op : HostOp) (s : State) : Host.Outcome State Fault Refusal :=
  match op with
  | .regWrite i v => .next (writeReg (regAt i) v s)
  | .regRead i => .next { s with rdata := readReg (regAt i) s }
  | .rawWrite a v => if a.toNat < s.rawSize.toNat then .next (writeRaw a.toNat v s) else .fault .hostOutsideRaw
  | .rawRead a =>
    if a.toNat < s.rawSize.toNat then .next { s with rdata := 0#24 ++ readRaw s a.toNat } else .fault .hostOutsideRaw
  | .rgbWrite a v => if a.toNat < s.rgbSize.toNat then .next (writeRgb a.toNat v s) else .fault .hostOutsideRgb
  | .rgbRead a =>
    if a.toNat < s.rgbSize.toNat then .next { s with rdata := 0#24 ++ readRgb s a.toNat } else .fault .hostOutsideRgb
  | .rst => .next (applyRst s)

end Sys2Proof.Machine
end

