-- ==== Sys2Proof/Machine/Sequencer.lean ====
section
/-! DEFINITION. What stands around `exec` in a step: the fetch of the next code, the completion of a command in flight
and the placing of an instruction where the step fetches it (R21, R73, R236; logs 3, 4, 5). -/

namespace Sys2Proof.Machine

/-- The tag of the command in flight (R92). -/
def flightArg (s : State) : BitVec 8 := argOf s.cmd

/-- The format of the command in flight (R222). -/
def flightFormat (s : State) : Format := (resolve (flightArg s)).1

/-- The depth of the Bayer command in flight; a command with no Bayer tag has no kernel pass, and counts as depth 8
here, in states that no step produces (log 4). -/
def flightDepth (s : State) : Depth :=
  match bayerTag (flightFormat s) with
  | some (d, _) => d
  | none => .d8

/-- The key of the kernel that the command in flight runs (R98, R305). -/
def pendingKey (s : State) : BitVec 5 := kernelKey (slotFor (flightDepth s) s) (flightDepth s)

/-- The index, in raster order, of the pixel `SP` points at (R236). -/
def spIndex (s : State) : Nat := s.sp.y.toNat * s.width.toNat + s.sp.x.toNat

/-- The rest of a command in flight from its `CHECK`, `NORM` or `SCAN` phase (R236, log 4). `NORM` goes on from the
sample `SP` points at, then runs the kernel; `SCAN` from the pixel `SP` points at. -/
def resumeBody (s : State) : State × ResultCode :=
  let w := s.width.toNat
  let left := pixelCount s - spIndex s
  match s.sp.phase with
  | .check => decodeBody (flightArg s) s
  | .norm => (reconstruct (flightDepth s) (normPass (flightDepth s) w left (spIndex s) s), .ok)
  | .scan => (paint .scan w (scanPixel (flightFormat s) s) left (spIndex s) s, .ok)
  | .idle | .kern => (s, .ok)

/-- Whether a pass in flight stays inside the attached memories. The checks run before the passes give it; a state
built with a pass in flight may lack it (log 8). -/
def flightFits (s : State) : Bool :=
  match s.sp.phase with
  | .norm | .scan => planeFits (classOf (flightFormat s)) s
  | .idle | .check | .kern => true

/-- Finish a command in flight from its `CHECK`, `NORM` or `SCAN` phase (R21: the hold always lifts). -/
def resumeCommand (s : State) : Host.Outcome State Fault Refusal :=
  if flightFits s then .next (endCommand true (resumeBody s).2 (resumeBody s).1)
  else .fault .planeOutsideMemory

/-- The completion of a Bayer decode after its kernel row has run (R234). -/
def completeKernel : Host.Outcome State Fault Refusal → Host.Outcome State Fault Refusal
  | .next t => .next (endCommand true .ok t)
  | .fault r => .fault r
  | .refused r => .refused r

/-- Place a command word where the next step fetches it: the host's next action is its write of `CMD`, and the engine
is idle. -/
def placeCommand (w : Word) (s : State) : State :=
  { s with port := .regWrite 0 w :: s.port, sp := ScanPtr.home, cmd := 0 }

/-- Place a kernel key where the next step fetches it: a Bayer decode of the key's depth stands at the start of its
kernel pass, and the slot of that depth holds the key's id (R98, R300). -/
def placeKernel (key : BitVec 5) (s : State) : State :=
  let id := key.extractLsb' 0 4
  let busy := { s with status := s.status.accepted, sp := ⟨.kern, 0, 0⟩ }
  if key.extractLsb' 4 1 = 1#1 then { busy with cmd := decodeWord Format.sgrbg10.tag, sel10 := id }
  else { busy with cmd := decodeWord Format.sgrbg8.tag, sel8 := id }

/-- Place the code of an opcode-table row; bits that are no code change nothing. -/
def placeCode (c : Option Code) (s : State) : State :=
  match c with
  | some (.command w) => placeCommand w s
  | some (.kernel key) => placeKernel key s
  | none => s

end Sys2Proof.Machine
end

