-- ==== Sys2Proof/Machine/Step.lean ====
section
/-! DEFINITION. One step of the machine (R20, R21, R330): an idle engine performs the host's next action, a write of
`CMD` being a whole command; an engine in flight finishes its command, the kernel row being fetched by its key. -/

namespace Sys2Proof.Machine

/-- A host write of `CMD` (R330): the decoded instruction, or an illegal word. -/
def issue (w : Word) (s : State) : Host.Outcome State Fault Refusal :=
  match decode (.command w) with
  | .ok i => exec i s
  | .error _ => .next (illegalCommand w s)

/-- One action of the host on an idle engine (R20, R22). -/
def hostStep (op : HostOp) (s : State) : Host.Outcome State Fault Refusal :=
  match op with
  | .regWrite i v => if i = 0 then issue v s else hostAccess (.regWrite i v) s
  | .regRead i => hostAccess (.regRead i) s
  | .rawWrite a v => hostAccess (.rawWrite a v) s
  | .rawRead a => hostAccess (.rawRead a) s
  | .rgbWrite a v => hostAccess (.rgbWrite a v) s
  | .rgbRead a => hostAccess (.rgbRead a) s
  | .rst => hostAccess .rst s

/-- The kernel pass of a Bayer decode in flight: fetch the row by its key and run it (R300, R305). -/
def kernelStep (s : State) : Host.Outcome State Fault Refusal :=
  match decode (.kernel (pendingKey s)) with
  | .ok i => completeKernel (exec i s)
  | .error _ => .next (endCommand true .noKernel s)

/-- An idle engine with nothing to do stays as it is (R343); else the host's next action is performed (R21). -/
def idleStep (s : State) : Host.Outcome State Fault Refusal :=
  match s.port with
  | [] => .next s
  | op :: rest => hostStep op { s with port := rest }

/-- One step. -/
def step (s : State) : Host.Outcome State Fault Refusal :=
  match s.sp.phase with
  | .idle => idleStep s
  | .kern => kernelStep s
  | .check | .norm | .scan => resumeCommand s

/-- `s` with the instruction of an opcode-table row placed where `step` fetches its next instruction (log 5). -/
def State.withFetchWord (s : State) (nbits w : Nat) : State := placeCode (codeOfBits nbits w) s

end Sys2Proof.Machine
end

