-- ==== Sys2Proof/Safety.lean ====
section
/-! DEFINITION. The terms the claims use: what it is for a step to go on, and the invariant of the machine between
commands (R27, R30, R139, R327, R40). -/

namespace Sys2Proof.Machine

/-- Every written address of a memory lies below its size (R40). -/
abbrev Memory.within (m : Memory) (size : Nat) : Prop := ∀ c ∈ m, c.1 < size

/-- The engine is between commands: `SP = (IDLE, 0, 0)` (R30), `BUSY = 0` (R26), no command in flight. -/
abbrev Quiet (s : State) : Prop := s.sp = ScanPtr.home ∧ s.status.busy = false ∧ s.cmd = 0

/-- `SEL` is the reset pairing or the result of a `SELECT` (R139 (c)). -/
abbrev SelLegal (s : State) : Prop :=
  (s.sel8 = 4#4 ∧ s.sel10 = 0#4) ∨
    ∃ a ∈ allAlgs, s.sel8 = Alg.id a ∧ s.sel10 = if algHas10 a then Alg.id a else noKernelId

/-- The invariant of the machine between commands: both memories are in canonical form and inside their sizes, the
engine is quiet, `SEL` is legal (R139), the reserved code has not been raised (R327), `HALT` is set exactly by the
fatal code (R330, R332), and a halted or warned engine has ended a command (R26). -/
structure Inv (s : State) : Prop where
  rawForm : s.raw.Pairwise fun p q => p.1 < q.1
  rgbForm : s.rgb.Pairwise fun p q => p.1 < q.1
  rawInside : Memory.within s.raw s.rawSize.toNat
  rgbInside : Memory.within s.rgb s.rgbSize.toNat
  quiet : Quiet s
  selLegal : SelLegal s
  noScratch : s.status.result ≠ .scratch
  haltFatal : s.status.halt = s.status.result.fatal
  warnOk : s.status.warn = true → s.status.result = .ok ∧ s.warnCount ≠ 0
  endedDone : s.status.result ≠ .ok ∨ s.status.warn = true → s.status.done = true

/-! ### The terms of the decode claims, written from R223, R226, R228, R232, R234 and not from the model's checks -/

/-- A single-plane `DECODE` with `p` bytes per pixel can run, parity conditions apart: the engine is not halted, the
geometry and the stride are legal (R226), and the buffers hold the image (R228). -/
abbrev SinglePlane (s : State) (p : Nat) : Prop :=
  s.status.halt = false ∧ 0 < s.width.toNat ∧ 0 < s.height.toNat ∧ p * s.width.toNat ≤ s.stride.toNat ∧
    s.rawLen.toNat ≤ s.rawSize.toNat ∧ s.rgbLen.toNat ≤ s.rgbSize.toNat ∧
    (s.height.toNat - 1) * s.stride.toNat + p * s.width.toNat ≤ s.rawLen.toNat ∧
    3 * s.width.toNat * s.height.toNat ≤ s.rgbLen.toNat

/-- A multi-plane `DECODE` that needs `need` source bytes can run, parity conditions apart (R226, R228). -/
abbrev MultiPlane (s : State) (need : Nat) : Prop :=
  s.status.halt = false ∧ 0 < s.width.toNat ∧ 0 < s.height.toNat ∧ s.stride = s.width ∧
    s.rawLen.toNat ≤ s.rawSize.toNat ∧ s.rgbLen.toNat ≤ s.rgbSize.toNat ∧
    need ≤ s.rawLen.toNat ∧ 3 * s.width.toNat * s.height.toNat ≤ s.rgbLen.toNat

/-- Output pixel `(y, x)` of `t`, in a plane of width `w`, is `p`, in the byte order of `SWAP_RB` (R67, R232). -/
def PixelShown (t : State) (w : Nat) (swap : Bool) (y x : Nat) (p : Rgb) : Prop :=
  readRgb t (3 * (y * w + x)) = (if swap then p.b else p.r) ∧ readRgb t (3 * (y * w + x) + 1) = p.g ∧
    readRgb t (3 * (y * w + x) + 2) = (if swap then p.r else p.b)

/-- Every output pixel of `t` is the given one, and every byte of `RGB` beyond the output is as it was in `s`
(R232, R238). -/
def Painted (s t : State) (pixel : Nat → Nat → Rgb) : Prop :=
  (∀ y x, y < s.height.toNat → x < s.width.toNat →
      PixelShown t s.width.toNat (s.ctrl.getLsbD 0) y x (pixel y x)) ∧
    ∀ a, 3 * s.width.toNat * s.height.toNat ≤ a → readRgb t a = readRgb s a

/-- `t` is `s` after a `DECODE` that passed its checks and logged `log`, the memories left open: result `R_OK`,
`WARN` set when something was logged, `SP` home, and every other register as it was (R229, R234, R335). -/
def Completed (s t : State) (log : List DiagEntry) : Prop :=
  t = { s with
        status := ⟨false, true, false, !log.isEmpty, .ok⟩
        sp := ⟨.idle, 0, 0⟩
        cmd := 0
        warnCount := BitVec.ofNat 32 log.length
        diag := s.diag ++ log
        raw := t.raw
        rgb := t.rgb }

/-- `t` is `s` after a command that ended with the code `code` and had no effect but on `STATUS` (R330, R235). -/
def EndedWith (s t : State) (code : ResultCode) : Prop :=
  t = { s with
        status := ⟨false, true, s.status.halt || code.fatal, false, code⟩
        sp := ⟨.idle, 0, 0⟩
        cmd := 0 }

/-- `t` is `s` after the decode of a format that is not Bayer and logs nothing: `RAW` keeps every byte, `RGB` holds the
image (R250, R280, R238). -/
abbrev Scanned (s t : State) (pixel : Nat → Nat → Rgb) : Prop :=
  Completed s t [] ∧ (∀ a, readRaw t a = readRaw s a) ∧ Painted s t pixel

/-- The container of `p` bytes at an address, little-endian (R60): one byte, or two. -/
def containerAt (p : Nat) (s : State) (a : Nat) : Nat :=
  if p = 1 then (readRaw s a).toNat else (readRaw s a).toNat + 256 * (readRaw s (a + 1)).toNat

/-- A Bayer `DECODE` with containers of `p` bytes passes steps 4 and 5 (R223, R226, R228). -/
abbrev BayerPlane (s : State) (p : Nat) : Prop :=
  SinglePlane s p ∧ s.width.toNat % 2 = 0 ∧ s.height.toNat % 2 = 0 ∧ (p = 2 → s.stride.toNat % 2 = 0)

/-- After a Bayer decode every container of the plane holds its normalised value, and no byte outside the containers
has changed (R303). `sh` is the precision shift and `top` the largest sample. -/
def Normalised (s t : State) (p sh top : Nat) : Prop :=
  (∀ y x, y < s.height.toNat → x < s.width.toNat →
      containerAt p t (y * s.stride.toNat + p * x) =
        min top (containerAt p s (y * s.stride.toNat + p * x) / 2 ^ sh * s.brightness.toNat / 256)) ∧
    ∀ b, (∀ y x, y < s.height.toNat → x < s.width.toNat →
        b < y * s.stride.toNat + p * x ∨ y * s.stride.toNat + p * x + p ≤ b) → readRaw t b = readRaw s b

/-- The range warnings of a 10-bit decode with precision shift `sh`, in raster order (R304). -/
def rangeEntries (s : State) (sh : Nat) : List DiagEntry :=
  (List.range (s.width.toNat * s.height.toNat)).filterMap fun k =>
    let y := k / s.width.toNat
    let x := k % s.width.toNat
    let v := containerAt 2 s (y * s.stride.toNat + 2 * x) / 2 ^ sh
    if 1023 < v then some ⟨.range, BitVec.ofNat 32 x, BitVec.ofNat 32 y, BitVec.ofNat 16 v⟩ else none

/-! ### The terms of the kernel claims -/

/-- The plane of samples of `p` bytes and the output lie inside the memories (R68). -/
abbrev KernelFits (s : State) (p : Nat) : Prop :=
  (s.height.toNat - 1) * s.stride.toNat + p * s.width.toNat ≤ s.rawSize.toNat ∧
    3 * s.width.toNat * s.height.toNat ≤ s.rgbSize.toNat

/-- A kernel pass changes `RGB` and `SP` only, and leaves `SP` at the last pixel (R155, R236). -/
def KernelRan (s t : State) : Prop :=
  t = { s with rgb := t.rgb, sp := t.sp } ∧
    (0 < s.width.toNat → 0 < s.height.toNat → t.sp = ⟨.kern, s.height - 1, s.width - 1⟩)

/-- The pixel of a site of the GRBG array: the channels given for its kind, divided by `q` (1 at depth 8, 4 at depth
10), as bytes (R150, R154). -/
def sitePixel (q y x : Nat) (gr r b gb : Nat × Nat × Nat) : Rgb :=
  let p := if y % 2 = 0 then (if x % 2 = 0 then gr else r) else (if x % 2 = 0 then b else gb)
  ⟨BitVec.ofNat 8 (p.1 / q), BitVec.ofNat 8 (p.2.1 / q), BitVec.ofNat 8 (p.2.2 / q)⟩

/-- The estimate of R204 from a sum `l` with factor `m` (512 for two samples, 256 for four), weight `w` and detail
`dt`, clamped to `top`. -/
def blend (top m l w : Nat) (dt : Int) : Nat :=
  (max 0 (min (top : Int) ((m * l + w * dt + 512) / 1024))).toNat

/-- The adaptive pixel of R205 with weights `wrg wbg wgr wbr wgb wrb`. -/
def adaptiveShown (d : Depth) (q top wrg wbg wgr wbr wgb wrb : Nat) (s : State) (y x : Nat) : Rgb :=
  let c := sample d s y x
  let h2 := nb d s y x 0 (-1) + nb d s y x 0 1
  let v2 := nb d s y x (-1) 0 + nb d s y x 1 0
  let d4 := nb d s y x (-1) (-1) + nb d s y x (-1) 1 + nb d s y x 1 (-1) + nb d s y x 1 1
  let f4 := nb d s y x (-2) 0 + nb d s y x 2 0 + nb d s y x 0 (-2) + nb d s y x 0 2
  let dg : Int := 4 * c - d4
  let dc : Int := 4 * c - f4
  sitePixel q y x
    (blend top 512 h2 wrg dg, c, blend top 512 v2 wbg dg)
    (c, blend top 256 (h2 + v2) wgr dc, blend top 256 d4 wbr dc)
    (blend top 256 d4 wrb dc, blend top 256 (h2 + v2) wgb dc, c)
    (blend top 512 v2 wrg dg, c, blend top 512 h2 wbg dg)

/-! ### The terms of the check claims: the tables of R223 by format -/

/-- `i` is the `DECODE` whose common steps see the format `f` (R222). -/
def DecodesAs (i : Instr) (f : Format) : Prop :=
  i = f.instr ∨ (f = .yuyv ∧ ∃ tag, (∀ g : Format, g.tag ≠ tag) ∧ i = .fallback tag)

/-- The Bayer formats (R96). -/
def bayer8Formats : List Format := [.sgrbg8, .srggb8, .sbggr8, .sgbrg8]

@[inherit_doc bayer8Formats]
def bayer10Formats : List Format := [.sgrbg10, .srggb10, .sbggr10, .sgbrg10]

/-- `P` of a single-plane format, 0 for a multi-plane one (R96, R223). -/
def bytesPerPixel : Format → Nat
  | .grey8 | .rgb332 | .sgrbg8 | .srggb8 | .sbggr8 | .sgbrg8 => 1
  | .yuyv | .uyvy | .y10 | .y12 | .rgb555 | .rgb565 | .rgb555x | .rgb565x | .sgrbg10 | .srggb10 | .sbggr10
  | .sgbrg10 => 2
  | .bgr24 | .rgb24 => 3
  | .bgr32 | .rgb32 => 4
  | .nv12 | .nv21 | .nv16 | .yuv411p | .yvu411p | .yuv420p | .yvu420p | .yuv422p | .yvu422p | .yuv444p
  | .yvu444p => 0

/-- One of the geometry conditions of R226 fails. -/
def GeometryBad (f : Format) (w h st : Nat) : Prop :=
  w = 0 ∨ h = 0 ∨
    (f ∈ [.yuyv, .uyvy, .nv16, .yuv422p, .yvu422p] ∧ w % 2 ≠ 0) ∨
    (f ∈ [.nv12, .nv21, .yuv420p, .yvu420p] ++ bayer8Formats ++ bayer10Formats ∧ (w % 2 ≠ 0 ∨ h % 2 ≠ 0)) ∨
    (f ∈ [.yuv411p, .yvu411p] ∧ w % 4 ≠ 0) ∨
    (bytesPerPixel f ≠ 0 ∧ st < bytesPerPixel f * w) ∨
    (bytesPerPixel f = 0 ∧ st ≠ w) ∨
    (f ∈ bayer10Formats ∧ st % 2 ≠ 0)

/-- `src_need` of a format (R223). -/
def sourceNeed (f : Format) (w h st : Nat) : Nat :=
  match f with
  | .nv12 | .nv21 => w * h + w * h / 2
  | .nv16 => 2 * w * h
  | .yuv411p | .yvu411p => w * h + 2 * (w / 4) * h
  | .yuv420p | .yvu420p => w * h + 2 * (w / 2) * (h / 2)
  | .yuv422p | .yvu422p => w * h + 2 * (w / 2) * h
  | .yuv444p | .yvu444p => 3 * w * h
  | .yuyv | .uyvy | .grey8 | .y10 | .y12 | .rgb332 | .rgb555 | .rgb565 | .rgb555x | .rgb565x | .bgr24 | .rgb24
  | .bgr32 | .rgb32 | .sgrbg8 | .srggb8 | .sbggr8 | .sgbrg8 | .sgrbg10 | .srggb10 | .sbggr10 | .sgbrg10 =>
    (h - 1) * st + bytesPerPixel f * w

/-- One of the buffer conditions of R228 fails. -/
def BufferBad (f : Format) (s : State) : Prop :=
  s.rawSize.toNat < s.rawLen.toNat ∨ s.rgbSize.toNat < s.rgbLen.toNat ∨
    s.rawLen.toNat < sourceNeed f s.width.toNat s.height.toNat s.stride.toNat ∨
    s.rgbLen.toNat < 3 * s.width.toNat * s.height.toNat

/-- The registry slot of the depth of a Bayer format holds "no kernel" (R225). -/
def SlotEmpty (f : Format) (s : State) : Prop :=
  (f ∈ bayer8Formats ∧ s.sel8 = 0xF#4) ∨ (f ∈ bayer10Formats ∧ s.sel10 = 0xF#4)

/-- None of the checks of R226, R228 and R225 fails. -/
def ChecksPass (f : Format) (s : State) : Prop :=
  ¬GeometryBad f s.width.toNat s.height.toNat s.stride.toNat ∧ ¬BufferBad f s ∧ ¬SlotEmpty f s

/-! ### The terms of the register claims -/

/-- The number of a result (R321). -/
def resultNumber : ResultCode → Nat
  | .ok => 0
  | .unknownAlg => 1
  | .geometry => 2
  | .buffer => 3
  | .noKernel => 4
  | .illegalCmd => 5
  | .listRange => 6
  | .scratch => 7

/-- What the 22 offsets 0x00 to 0x54 of the bank read, in order (R22, R24 to R33). -/
def bankWords (s : State) : List Word :=
  [0,
   BitVec.ofNat 32 (s.status.busy.toNat + 2 * s.status.done.toNat + 4 * s.status.halt.toNat +
     8 * s.status.warn.toNat + 16 * resultNumber s.status.result),
   s.ctrl.setWidth 32, s.width, s.height, s.stride, s.rawLen, s.rgbLen, s.brightness.setWidth 32,
   s.sharpness.setWidth 32, BitVec.ofNat 32 (s.sel8.toNat + 16 * s.sel10.toNat), s.warnCount,
   s.name0, s.name1, s.name2, s.name3, s.lname0, s.lname1, s.lname2, s.lname3, s.lflags.setWidth 32, 6]

/-- The implemented bits of the registers the host may write, by word index; 0 for the others (R22, R23). -/
def writeMask (index : Nat) : Word :=
  if index = 2 then 3
  else if 3 ≤ index ∧ index ≤ 7 then 0xFFFFFFFF#32
  else if index = 8 then 0xFFFF#32
  else if 12 ≤ index ∧ index ≤ 15 then 0xFFFFFFFF#32
  else 0

/-- A command word is legal (R91), in the numbers of its fields. -/
def LegalWord (w : Word) : Prop :=
  (w.toNat % 256 = 1 ∧ w.toNat / 65536 = 0) ∨
    (w.toNat % 256 = 2 ∧ w.toNat / 256 % 256 = 0 ∧ w.toNat / 65536 = 0) ∨
    (w.toNat % 256 = 3 ∧ w.toNat / 256 % 256 = 0) ∨ (w.toNat % 256 = 4 ∧ w.toNat / 65536 = 0)

end Sys2Proof.Machine
end

