-- ==== Sys2Proof/WellFormed.lean ====
section
/-! DEFINITION. Which instructions are well formed. The types already bound every operand field (a 16-bit value, an
8-bit index, an 8-bit tag); the one check left is that the fallback row stands for unrecognised tags only (R94, R101). -/

namespace Sys2Proof

/-- `DECODE.FALLBACK` is the instruction of a tag that is none of the 33 recognised ones (R94, R101); every other
instruction is well formed with every operand. -/
def Instr.wellFormed : Instr → Bool
  | .fallback tag => (Format.ofTag tag).isNone
  | .yuyv | .uyvy | .nv12 | .nv21 | .nv16 | .yuv411p | .yvu411p | .yuv420p | .yvu420p | .yuv422p | .yvu422p
  | .yuv444p | .yvu444p | .grey8 | .y10 | .y12 | .rgb332 | .rgb555 | .rgb565 | .rgb555x | .rgb565x | .bgr24
  | .rgb24 | .bgr32 | .rgb32 | .sgrbg8 | .srggb8 | .sbggr8 | .sgbrg8 | .sgrbg10 | .srggb10 | .sbggr10
  | .sgbrg10 | .select | .setsharp _ | .list _ | .cottnoip8 | .cottnoip10 | .cott8 | .horip8 | .ip8 | .gptm8
  | .gptm10 | .gptmFast8 => true

end Sys2Proof
end

