-- ==== Sys2Proof/Certificates/Slice0/Obligations.lean ====
section
/-! DEFINITION. The statements for the provers, from the numbered rules of spec/. -/

open Sys2Proof Sys2Proof.Machine

/-! ### Encoding -/

/-- Decode and encode agree on every well-formed instruction, with every operand (R90, R91, R94, R96, R98). -/
def Obligations.EncodeDecodeAgree : Prop :=
  ∀ i : Instr, i.wellFormed = true → decode (encode i) = .ok i

/-- A code that decodes is the encoding of the instruction it decodes to, which is well formed: no bit of a legal word
is dropped and no two codes are one instruction (R91). -/
def Obligations.DecodeEncodeAgree : Prop :=
  ∀ (c : Code) (i : Instr), decode c = .ok i → encode i = c ∧ i.wellFormed = true

/-- R91: a word is legal exactly when its fields are; a legal word is `DECODE` of its tag, the row of the tag or the
fallback row, `SELECT`, `SETSHARP` of its `IMM` or `LIST` of its `ARG`; every other word is illegal. -/
def Obligations.LegalWordsExactly : Prop :=
  ∀ w : Word,
    (¬LegalWord w → ∃ e, decode (.command w) = .error e) ∧
    (LegalWord w → w.toNat % 256 = 1 →
      (∀ f : Format, f.tag.toNat = w.toNat / 256 % 256 → decode (.command w) = .ok f.instr) ∧
      ((∀ f : Format, f.tag.toNat ≠ w.toNat / 256 % 256) →
        decode (.command w) = .ok (.fallback (BitVec.ofNat 8 (w.toNat / 256 % 256))))) ∧
    (LegalWord w → w.toNat % 256 = 2 → decode (.command w) = .ok .select) ∧
    (LegalWord w → w.toNat % 256 = 3 → decode (.command w) = .ok (.setsharp (BitVec.ofNat 16 (w.toNat / 65536)))) ∧
    (LegalWord w → w.toNat % 256 = 4 →
      decode (.command w) = .ok (.list (BitVec.ofNat 8 (w.toNat / 256 % 256))))

/-- A few command words of the spec, written out, decode to the instructions they stand for (R94, R96, R135). -/
def Obligations.SpecWordsDecode : Prop :=
  decode (.command 0x00001001#32) = .ok .yuyv ∧ decode (.command 0x00002201#32) = .ok .nv16 ∧
    decode (.command 0x00003701#32) = .ok .yvu444p ∧ decode (.command 0x00004201#32) = .ok .y12 ∧
    decode (.command 0x00005801#32) = .ok .rgb32 ∧ decode (.command 0x00006B01#32) = .ok .sgbrg10 ∧
    decode (.command 0x00000001#32) = .ok (.fallback 0#8) ∧ decode (.command 0x00000002#32) = .ok .select ∧
    decode (.command 0x5A830003#32) = .ok (.setsharp 23171#16) ∧
    decode (.command 0x00000504#32) = .ok (.list 5#8)

/-- Exactly the eight kernel keys of R98 decode, each to its kernel. -/
def Obligations.KernelKeysDecode : Prop :=
  ∀ key : BitVec 5, decode (.kernel key) =
    if key = 0x00#5 then .ok .cottnoip8 else if key = 0x01#5 then .ok .cott8
    else if key = 0x02#5 then .ok .horip8 else if key = 0x03#5 then .ok .ip8
    else if key = 0x04#5 then .ok .gptm8 else if key = 0x05#5 then .ok .gptmFast8
    else if key = 0x10#5 then .ok .cottnoip10 else if key = 0x14#5 then .ok .gptm10
    else .error .noKernelRow

/-! ### The step -/

/-- A step runs the decoded instruction: when the host's next action writes a legal word to `CMD`, the step is `exec`
of the instruction, the action being consumed (R20, R73, R330). -/
def Obligations.StepRunsCommand : Prop :=
  ∀ (s : State) (w : Word) (rest : List HostOp) (i : Instr),
    s.sp.phase = .idle → s.port = .regWrite 0 w :: rest → decode (.command w) = .ok i →
      step s = exec i { s with port := rest }

/-- A step in the kernel phase of a Bayer decode runs the kernel row of the slot and the depth, then completes the
command (R234, R300, R305). That a step can stand at this point is the model's choice (log 4). -/
def Obligations.StepRunsKernel : Prop :=
  ∀ (s : State) (f : Format) (d : Depth) (p : CfaPhase) (a : Alg) (i : Instr),
    s.sp.phase = .kern → s.cmd.toNat = 1 + 256 * f.tag.toNat → bayerTag f = some (d, p) →
    (match d with | .d8 => s.sel8 | .d10 => s.sel10) = a.id → kernelInstr a d = some i →
      step s =
        match exec i s with
        | .next t =>
          .next { t with
            sp := ⟨.idle, 0, 0⟩, cmd := 0
            status := ⟨false, true, t.status.halt, decide (t.warnCount ≠ 0), .ok⟩ }
        | other => other

/-- The model's choice of log 5: an instruction placed by its opcode-table bits is the one the next step runs. A
command row is placed as the host's write of `CMD` to an idle engine. A kernel row is placed as a Bayer decode of the
key's depth at the start of its kernel pass (log 4), the key's id in the slot of that depth, and the step completes
the command after the row. -/
def Obligations.PlacedWordRuns : Prop :=
  ∀ (s : State) (nbits w : Nat) (i : Instr), decodeTableWord nbits w = some i →
    (8 < nbits → step (s.withFetchWord nbits w) = exec i { s with sp := ⟨.idle, 0, 0⟩, cmd := 0 }) ∧
    (nbits ≤ 8 →
      let m : State := { s with
        sp := ⟨.kern, 0, 0⟩
        status := { s.status with busy := true, done := false }
        cmd := if w < 16 then 0x00006001#32 else 0x00006801#32
        sel8 := if w < 16 then BitVec.ofNat 4 w else s.sel8
        sel10 := if w < 16 then s.sel10 else BitVec.ofNat 4 (w - 16) }
      s.withFetchWord nbits w = m ∧
        step m =
          match exec i m with
          | .next t =>
            .next { t with
              sp := ⟨.idle, 0, 0⟩, cmd := 0
              status := ⟨false, true, t.status.halt, decide (t.warnCount ≠ 0), .ok⟩ }
          | other => other)

/-- Nothing happens by itself: an idle engine with no host action stays as it is, and so does the machine right after
reset. That the host acts through the list `port`, that an idle engine with none pending steps to itself, and that the
list is empty at reset are the model's choice (log 3), the model's form of R343 and R363: idle waits for the host, and
no command starts by itself. -/
def Obligations.IdleStays : Prop :=
  (∀ s : State, s.sp.phase = .idle → s.port = [] → step s = .next s) ∧ step State.reset = .next State.reset

/-- Every write of `CMD` to a ready engine ends in the one step, with `BUSY = 0`, `DONE = 1` and `SP` home (R21, R239,
R330). -/
def Obligations.CommandEnds : Prop :=
  ∀ (s : State) (w : Word) (rest : List HostOp),
    s.sp.phase = .idle → s.status.halt = false → s.port = .regWrite 0 w :: rest →
      ∃ t, step s = .next t ∧ t.status.busy = false ∧ t.status.done = true ∧ t.sp = ⟨.idle, 0, 0⟩ ∧ t.cmd = 0 ∧
        t.port = rest

/-- While `HALT = 1` every register write is ignored, `CMD` included, and so is every command on its own; a host store
to `RAW` still works (R332, log 14). The other memory accesses, halted or not, are in `HostMemory`. -/
def Obligations.HaltedWritesIgnored : Prop :=
  ∀ s : State, s.status.halt = true →
    (∀ index v rest, s.sp.phase = .idle → s.port = .regWrite index v :: rest →
      step s = .next { s with port := rest }) ∧
    exec .select s = .next s ∧ (∀ v, exec (.setsharp v) s = .next s) ∧ (∀ idx, exec (.list idx) s = .next s) ∧
    (∀ f i, DecodesAs i f → exec i s = .next s) ∧
    (∀ a v rest, s.sp.phase = .idle → s.port = .rawWrite a v :: rest → a.toNat < s.rawSize.toNat →
      ∃ t, step s = .next t ∧ readRaw t a.toNat = v)

/-! ### Registers, memories, reset -/

/-- The state after reset (R43). That each byte of the memories, whose contents the rule leaves unspecified (R362),
reads as the free constant of its address is the model's form (log 2). -/
def Obligations.ResetState : Prop :=
  bankWords State.reset =
      [0, 0, 0, 0, 0, 0, 0, 0, 0x100, 0x8000, 0x04, 0, 0, 0, 0, 0, 0, 0, 0, 0, 0, 6] ∧
    State.reset.status = ⟨false, false, false, false, .ok⟩ ∧ State.reset.sel8 = 4#4 ∧ State.reset.sel10 = 0#4 ∧
    State.reset.sp = ⟨.idle, 0, 0⟩ ∧ State.reset.diag = [] ∧
    allAlgs.map (fun a => (a.id.toNat, (algName a).map fun b => Char.ofNat b.toNat, hasKernel a .d8, algHas10 a)) =
      [(0, ['c', 'o', 't', 't', 'n', 'o', 'i', 'p'], true, true), (1, ['c', 'o', 't', 't'], true, false),
       (2, ['h', 'o', 'r', 'i', 'p'], true, false), (3, ['i', 'p'], true, false),
       (4, ['g', 'p', 't', 'm'], true, true), (5, ['g', 'p', 't', 'm', '_', 'f', 'a', 's', 't'], true, false)] ∧
    (∀ a, readRaw State.reset a = Config.rawPowerOn a) ∧ ∀ a, readRgb State.reset a = Config.rgbPowerOn a

/-- The reset input restores every register, `STATUS`, `SP` and `DIAG`, clears `HALT`, and keeps `RAW` and `RGB`
(R360, R362). That it acts on an idle engine only, between commands, and keeps the attached sizes and the pending
actions is the model's reading of R364 (log 9). -/
def Obligations.RstRestores : Prop :=
  ∀ (s : State) (rest : List HostOp), s.sp.phase = .idle → s.port = .rst :: rest →
    ∃ t, step s = .next t ∧ bankWords t = bankWords State.reset ∧ t.status.halt = false ∧ t.sp = ⟨.idle, 0, 0⟩ ∧
      t.diag = [] ∧ t.cmd = 0 ∧ (∀ a, readRaw t a = readRaw s a) ∧ (∀ a, readRgb t a = readRgb s a) ∧
      t.rawSize = s.rawSize ∧ t.rgbSize = s.rgbSize ∧ t.port = rest

/-- A host read of the bank returns the register at the offset, 0 at `CMD` and at the reserved offsets, and changes
nothing, halted or not (R22, R26, R27, R332). That the word stands in `rdata` is the model's form (log 6). -/
def Obligations.RegisterReads : Prop :=
  ∀ (s : State) (index : BitVec 5) (rest : List HostOp), s.sp.phase = .idle → s.port = .regRead index :: rest →
    step s = .next { s with port := rest, rdata := (bankWords s).getD index.toNat 0 }

/-- A host write of a register keeps the implemented bits of a writable one, is ignored at the others, and changes no
other register, no memory and no log entry (R22, R23). -/
def Obligations.RegisterWrites : Prop :=
  ∀ (s : State) (index : BitVec 5) (v : Word) (rest : List HostOp),
    s.sp.phase = .idle → s.status.halt = false → index ≠ 0 → s.port = .regWrite index v :: rest →
      ∃ t, step s = .next t ∧
        bankWords t =
          (if writeMask index.toNat = 0 then bankWords s
          else (bankWords s).set index.toNat (v &&& writeMask index.toNat)) ∧
        t = { s with
              ctrl := t.ctrl, width := t.width, height := t.height, stride := t.stride, rawLen := t.rawLen
              rgbLen := t.rgbLen, brightness := t.brightness, name0 := t.name0, name1 := t.name1
              name2 := t.name2, name3 := t.name3, port := rest }

/-- The memories are plain storage for the host, halted or not: a write stores its byte and no other, a read returns
the byte and changes no memory (R40, R64, R332). That a read puts the byte in bits 7:0 of `rdata`, the rest 0, is the
model's choice (log 6). -/
def Obligations.HostMemory : Prop :=
  ∀ (s : State) (a : Word) (v : Byte) (rest : List HostOp), s.sp.phase = .idle →
    (a.toNat < s.rawSize.toNat →
      (s.port = .rawWrite a v :: rest → ∃ t, step s = .next t ∧ t = { s with port := rest, raw := t.raw } ∧
        ∀ b, readRaw t b = if b = a.toNat then v else readRaw s b) ∧
      (s.port = .rawRead a :: rest →
        step s = .next { s with port := rest, rdata := (readRaw s a.toNat).setWidth 32 })) ∧
    (a.toNat < s.rgbSize.toNat →
      (s.port = .rgbWrite a v :: rest → ∃ t, step s = .next t ∧ t = { s with port := rest, rgb := t.rgb } ∧
        ∀ b, readRgb t b = if b = a.toNat then v else readRgb s b) ∧
      (s.port = .rgbRead a :: rest →
        step s = .next { s with port := rest, rdata := (readRgb s a.toNat).setWidth 32 }))

/-- The model's choice of log 7: a host access at or beyond the size of a memory stops the machine. -/
def Obligations.HostOutsideFaults : Prop :=
  ∀ (s : State) (a : Word) (v : Byte) (rest : List HostOp), s.sp.phase = .idle →
    (s.rawSize.toNat ≤ a.toNat → s.port = .rawWrite a v :: rest ∨ s.port = .rawRead a :: rest →
      step s = .fault .hostOutsideRaw) ∧
    (s.rgbSize.toNat ≤ a.toNat → s.port = .rgbWrite a v :: rest ∨ s.port = .rgbRead a :: rest →
      step s = .fault .hostOutsideRgb)

/-- An illegal command word changes nothing but `STATUS`, which says `E_ILLEGAL_CMD` (R100, R326). -/
def Obligations.IllegalWordEnds : Prop :=
  ∀ (s : State) (w : Word) (rest : List HostOp),
    s.sp.phase = .idle → s.status.halt = false → s.port = .regWrite 0 w :: rest → ¬LegalWord w →
      ∃ t, step s = .next t ∧ EndedWith { s with port := rest } t .illegalCmd ∧
        t.status.word = 0x52#32

/-! ### The registry -/

/-- `SELECT` with the name of an entry sets both slots, to the six `SEL` values of R131, and changes nothing else. -/
def Obligations.SelectKnownName : Prop :=
  ∀ (s : State) (n0 n1 n2 : Word) (id8 id10 : BitVec 4),
    (n0, n1, n2, id8, id10) ∈
      [(0x74746F63#32, 0x70696F6E#32, 0#32, 0#4, 0#4), (0x74746F63#32, 0#32, 0#32, 1#4, 0xF#4),
       (0x69726F68#32, 0x00000070#32, 0#32, 2#4, 0xF#4), (0x00007069#32, 0#32, 0#32, 3#4, 0xF#4),
       (0x6D747067#32, 0#32, 0#32, 4#4, 4#4), (0x6D747067#32, 0x7361665F#32, 0x00000074#32, 5#4, 0xF#4)] →
    s.status.halt = false → s.name0 = n0 → s.name1 = n1 → s.name2 = n2 → s.name3 = 0 →
      exec .select s = .next { s with
        status := ⟨false, true, false, false, .ok⟩, sp := ⟨.idle, 0, 0⟩, cmd := 0, sel8 := id8, sel10 := id10 }

/-- `SELECT` with any other 16 bytes ends with `E_UNKNOWN_ALG` and changes nothing but `STATUS`; the engine stays
ready (R132). -/
def Obligations.SelectUnknownName : Prop :=
  ∀ s : State,
    (s.name0, s.name1, s.name2, s.name3) ∉
      [(0x74746F63#32, 0x70696F6E#32, 0#32, 0#32), (0x74746F63#32, 0#32, 0#32, 0#32),
       (0x69726F68#32, 0x00000070#32, 0#32, 0#32), (0x00007069#32, 0#32, 0#32, 0#32),
       (0x6D747067#32, 0#32, 0#32, 0#32), (0x6D747067#32, 0x7361665F#32, 0x00000074#32, 0#32)] →
    s.status.halt = false →
      ∃ t, exec .select s = .next t ∧ EndedWith s t .unknownAlg ∧ t.status.word = 0x12#32

/-- `SETSHARP` is the word `3 + (imm << 16)`; it stores its immediate, any 16-bit value, and changes nothing else
(R135). -/
def Obligations.SetSharpStores : Prop :=
  ∀ (s : State) (v : Half),
    decode (.command (BitVec.ofNat 32 (3 + 65536 * v.toNat))) = .ok (.setsharp v) ∧
    (s.status.halt = false →
      exec (.setsharp v) s = .next { s with
        status := ⟨false, true, false, false, .ok⟩, sp := ⟨.idle, 0, 0⟩, cmd := 0, sharpness := v })

/-- `LIST` of 0 to 5 gives the six results of R137 and changes nothing else. -/
def Obligations.ListEntries : Prop :=
  ∀ (s : State) (idx : BitVec 8) (l0 l1 l2 : Word) (flags : Half),
    (idx, l0, l1, l2, flags) ∈
      [(0#8, 0x74746F63#32, 0x70696F6E#32, 0#32, 0x0003#16), (1#8, 0x74746F63#32, 0#32, 0#32, 0x0101#16),
       (2#8, 0x69726F68#32, 0x00000070#32, 0#32, 0x0201#16), (3#8, 0x00007069#32, 0#32, 0#32, 0x0301#16),
       (4#8, 0x6D747067#32, 0#32, 0#32, 0x0403#16), (5#8, 0x6D747067#32, 0x7361665F#32, 0x00000074#32, 0x0501#16)] →
    s.status.halt = false →
      exec (.list idx) s = .next { s with
        status := ⟨false, true, false, false, .ok⟩, sp := ⟨.idle, 0, 0⟩, cmd := 0
        lname0 := l0, lname1 := l1, lname2 := l2, lname3 := 0, lflags := flags }

/-- `LIST` of 6 or more ends with `E_LIST_RANGE` and changes nothing but `STATUS` (R138). -/
def Obligations.ListOutOfRange : Prop :=
  ∀ (s : State) (idx : BitVec 8), 6 ≤ idx.toNat → s.status.halt = false →
    ∃ t, exec (.list idx) s = .next t ∧ EndedWith s t .listRange ∧ t.status.word = 0x62#32

/-! ### The colorspace converter -/

/-- R120: the conversion, on integers with the floor, and the worked examples. -/
def Obligations.ColourConversion : Prop :=
  (∀ y u v : Byte,
    let c : Int := y.toNat - 16
    let d : Int := u.toNat - 128
    let e : Int := v.toNat - 128
    ((yuvToRgb y u v).r.toNat : Int) = max 0 (min 255 ((298 * c + 409 * e + 128) / 256)) ∧
    ((yuvToRgb y u v).g.toNat : Int) = max 0 (min 255 ((298 * c - 100 * d - 208 * e + 128) / 256)) ∧
    ((yuvToRgb y u v).b.toNat : Int) = max 0 (min 255 ((298 * c + 516 * d + 128) / 256))) ∧
  yuvToRgb 16 128 128 = ⟨0, 0, 0⟩ ∧ yuvToRgb 235 128 128 = ⟨255, 255, 255⟩

/-- The laws of the conversion, which the spec infers from R120 ("Laws a model can prove from rule R120", R124). -/
def Obligations.ConversionLaws : Prop :=
  (∀ y : Byte, let p := yuvToRgb y 128 128
    p.r = p.g ∧ p.g = p.b ∧ (p.r.toNat : Int) = max 0 (min 255 ((298 * ((y.toNat : Int) - 16) + 128) / 256)) ∧
      (y.toNat ≤ 16 → p.r = 0) ∧ (235 ≤ y.toNat → p.r = 255)) ∧
  (∀ y u u' v v' : Byte, (yuvToRgb y u v).r = (yuvToRgb y u' v).r ∧ (yuvToRgb y u v).b = (yuvToRgb y u v').b) ∧
  (∀ y y' u u' v v' : Byte, y.toNat ≤ y'.toNat → u.toNat ≤ u'.toNat → v.toNat ≤ v'.toNat →
    (yuvToRgb y u v).r.toNat ≤ (yuvToRgb y' u v').r.toNat ∧
    (yuvToRgb y u v).b.toNat ≤ (yuvToRgb y' u' v).b.toNat ∧
    (yuvToRgb y u' v').g.toNat ≤ (yuvToRgb y' u v).g.toNat) ∧
  ∀ y u v : Byte, (yuvToRgb y u v).r.toNat ≤ 255 ∧ (yuvToRgb y u v).g.toNat ≤ 255 ∧ (yuvToRgb y u v).b.toNat ≤ 255

/-- Whether the shift of a negative numerator floors or truncates toward zero cannot be observed (the spec's inference
from R120 and R9: "The choice cannot be observed", R123). -/
def Obligations.ConversionTruncation : Prop :=
  (∀ n : Int, clip8 (floorShift n 8) = clip8 (n.tdiv 256)) ∧
  ∀ y u v : Byte,
    let c : Int := y.toNat - 16
    let d : Int := u.toNat - 128
    let e : Int := v.toNat - 128
    yuvToRgb y u v =
      ⟨clip8 ((298 * c + 409 * e + 128).tdiv 256), clip8 ((298 * c - 100 * d - 208 * e + 128).tdiv 256),
        clip8 ((298 * c + 516 * d + 128).tdiv 256)⟩

/-! ### The decodes of YUV, monochrome and RGB formats -/

/-- `YUYV` and `UYVY`: groups of four bytes, luma first or chroma first (R251, R252). -/
def Obligations.DecodesPackedYuv : Prop :=
  ∀ s : State, SinglePlane s 2 → s.width.toNat % 2 = 0 →
    (∃ t, exec .yuyv s = .next t ∧ Scanned s t fun y x =>
      let g := y * s.stride.toNat + 4 * (x / 2)
      yuvToRgb (readRaw s (g + 2 * (x % 2))) (readRaw s (g + 1)) (readRaw s (g + 3))) ∧
    (∃ t, exec .uyvy s = .next t ∧ Scanned s t fun y x =>
      let g := y * s.stride.toNat + 4 * (x / 2)
      yuvToRgb (readRaw s (g + 1 + 2 * (x % 2))) (readRaw s g) (readRaw s (g + 2)))

/-- `NV12`, `NV21` and `NV16`: one luma plane and one plane of chroma pairs (R253, R254, R255). -/
def Obligations.DecodesSemiPlanarYuv : Prop :=
  ∀ s : State, s.width.toNat % 2 = 0 →
    let w := s.width.toNat
    let h := s.height.toNat
    (MultiPlane s (w * h + w * h / 2) → h % 2 = 0 →
      (∃ t, exec .nv12 s = .next t ∧ Scanned s t fun y x =>
        let c := w * h + y / 2 * w + 2 * (x / 2)
        yuvToRgb (readRaw s (y * w + x)) (readRaw s c) (readRaw s (c + 1))) ∧
      (∃ t, exec .nv21 s = .next t ∧ Scanned s t fun y x =>
        let c := w * h + y / 2 * w + 2 * (x / 2)
        yuvToRgb (readRaw s (y * w + x)) (readRaw s (c + 1)) (readRaw s c))) ∧
    (MultiPlane s (2 * w * h) →
      ∃ t, exec .nv16 s = .next t ∧ Scanned s t fun y x =>
        let c := w * h + y * w + 2 * (x / 2)
        yuvToRgb (readRaw s (y * w + x)) (readRaw s c) (readRaw s (c + 1)))

/-- The 4:1:1 and 4:2:2 planar formats: chroma at full vertical resolution, planes Y, Cb, Cr or Y, Cr, Cb (R256, R257,
R260, R261). -/
def Obligations.DecodesPlanar411And422 : Prop :=
  ∀ s : State,
    let w := s.width.toNat
    let h := s.height.toNat
    (MultiPlane s (w * h + 2 * (w / 4) * h) → w % 4 = 0 →
      (∃ t, exec .yuv411p s = .next t ∧ Scanned s t fun y x =>
        let i := y * (w / 4) + x / 4
        yuvToRgb (readRaw s (y * w + x)) (readRaw s (w * h + i)) (readRaw s (w * h + w / 4 * h + i))) ∧
      (∃ t, exec .yvu411p s = .next t ∧ Scanned s t fun y x =>
        let i := y * (w / 4) + x / 4
        yuvToRgb (readRaw s (y * w + x)) (readRaw s (w * h + w / 4 * h + i)) (readRaw s (w * h + i)))) ∧
    (MultiPlane s (w * h + 2 * (w / 2) * h) → w % 2 = 0 →
      (∃ t, exec .yuv422p s = .next t ∧ Scanned s t fun y x =>
        let i := y * (w / 2) + x / 2
        yuvToRgb (readRaw s (y * w + x)) (readRaw s (w * h + i)) (readRaw s (w * h + w / 2 * h + i))) ∧
      (∃ t, exec .yvu422p s = .next t ∧ Scanned s t fun y x =>
        let i := y * (w / 2) + x / 2
        yuvToRgb (readRaw s (y * w + x)) (readRaw s (w * h + w / 2 * h + i)) (readRaw s (w * h + i))))

/-- The 4:2:0 and 4:4:4 planar formats (R258, R259, R262, R263). -/
def Obligations.DecodesPlanar420And444 : Prop :=
  ∀ s : State,
    let w := s.width.toNat
    let h := s.height.toNat
    (MultiPlane s (w * h + 2 * (w / 2) * (h / 2)) → w % 2 = 0 → h % 2 = 0 →
      (∃ t, exec .yuv420p s = .next t ∧ Scanned s t fun y x =>
        let i := y / 2 * (w / 2) + x / 2
        yuvToRgb (readRaw s (y * w + x)) (readRaw s (w * h + i)) (readRaw s (w * h + w / 2 * (h / 2) + i))) ∧
      (∃ t, exec .yvu420p s = .next t ∧ Scanned s t fun y x =>
        let i := y / 2 * (w / 2) + x / 2
        yuvToRgb (readRaw s (y * w + x)) (readRaw s (w * h + w / 2 * (h / 2) + i)) (readRaw s (w * h + i)))) ∧
    (MultiPlane s (3 * w * h) →
      (∃ t, exec .yuv444p s = .next t ∧ Scanned s t fun y x =>
        let i := y * w + x
        yuvToRgb (readRaw s i) (readRaw s (w * h + i)) (readRaw s (2 * (w * h) + i))) ∧
      (∃ t, exec .yvu444p s = .next t ∧ Scanned s t fun y x =>
        let i := y * w + x
        yuvToRgb (readRaw s i) (readRaw s (2 * (w * h) + i)) (readRaw s (w * h + i))))

/-- `GREY8`, `Y10`, `Y12`: the sample, shifted to 8 bits and clamped, in all three channels (R281, R282, R283). -/
def Obligations.DecodesMonochrome : Prop :=
  ∀ s : State,
    (SinglePlane s 1 → ∃ t, exec .grey8 s = .next t ∧ Scanned s t fun y x =>
      let v := readRaw s (y * s.stride.toNat + x)
      ⟨v, v, v⟩) ∧
    (SinglePlane s 2 →
      (∃ t, exec .y10 s = .next t ∧ Scanned s t fun y x =>
        let v := BitVec.ofNat 8 (min 255 (containerAt 2 s (y * s.stride.toNat + 2 * x) / 4))
        ⟨v, v, v⟩) ∧
      (∃ t, exec .y12 s = .next t ∧ Scanned s t fun y x =>
        let v := BitVec.ofNat 8 (min 255 (containerAt 2 s (y * s.stride.toNat + 2 * x) / 16))
        ⟨v, v, v⟩))

/-- `RGB332` and the 15- and 16-bit formats, little- and big-endian: each field in the high bits of its byte (R284 to
R288, R293). -/
def Obligations.DecodesNarrowRgb : Prop :=
  ∀ s : State,
    let px15 : Nat → Rgb := fun p =>
      ⟨BitVec.ofNat 8 (p / 1024 % 32 * 8), BitVec.ofNat 8 (p / 32 % 32 * 8), BitVec.ofNat 8 (p % 32 * 8)⟩
    let px16 : Nat → Rgb := fun p =>
      ⟨BitVec.ofNat 8 (p / 2048 * 8), BitVec.ofNat 8 (p / 32 % 64 * 4), BitVec.ofNat 8 (p % 32 * 8)⟩
    let lo : Nat → Nat → Nat := fun y x => (readRaw s (y * s.stride.toNat + 2 * x)).toNat
    let hi : Nat → Nat → Nat := fun y x => (readRaw s (y * s.stride.toNat + 2 * x + 1)).toNat
    (SinglePlane s 1 → ∃ t, exec .rgb332 s = .next t ∧ Scanned s t fun y x =>
      let p := (readRaw s (y * s.stride.toNat + x)).toNat
      ⟨BitVec.ofNat 8 (p / 32 * 32), BitVec.ofNat 8 (p / 4 % 8 * 32), BitVec.ofNat 8 (p % 4 * 64)⟩) ∧
    (SinglePlane s 2 →
      (∃ t, exec .rgb555 s = .next t ∧ Scanned s t fun y x => px15 (lo y x + 256 * hi y x)) ∧
      (∃ t, exec .rgb565 s = .next t ∧ Scanned s t fun y x => px16 (lo y x + 256 * hi y x)) ∧
      (∃ t, exec .rgb555x s = .next t ∧ Scanned s t fun y x => px15 (256 * lo y x + hi y x)) ∧
      (∃ t, exec .rgb565x s = .next t ∧ Scanned s t fun y x => px16 (256 * lo y x + hi y x)))

/-- The 24- and 32-bit formats: bytes copied, the pad byte not read (R289 to R292). -/
def Obligations.DecodesWideRgb : Prop :=
  ∀ s : State,
    (SinglePlane s 3 →
      (∃ t, exec .bgr24 s = .next t ∧ Scanned s t fun y x =>
        let a := y * s.stride.toNat + 3 * x
        ⟨readRaw s (a + 2), readRaw s (a + 1), readRaw s a⟩) ∧
      (∃ t, exec .rgb24 s = .next t ∧ Scanned s t fun y x =>
        let a := y * s.stride.toNat + 3 * x
        ⟨readRaw s a, readRaw s (a + 1), readRaw s (a + 2)⟩)) ∧
    (SinglePlane s 4 →
      (∃ t, exec .bgr32 s = .next t ∧ Scanned s t fun y x =>
        let a := y * s.stride.toNat + 4 * x
        ⟨readRaw s (a + 2), readRaw s (a + 1), readRaw s a⟩) ∧
      (∃ t, exec .rgb32 s = .next t ∧ Scanned s t fun y x =>
        let a := y * s.stride.toNat + 4 * x
        ⟨readRaw s (a + 1), readRaw s (a + 2), readRaw s (a + 3)⟩))

/-- An unrecognised tag is decoded as `YUYV`, with one fallback warning carrying the tag (R224). -/
def Obligations.DecodesFallback : Prop :=
  ∀ (s : State) (tag : BitVec 8), (∀ f : Format, f.tag ≠ tag) → SinglePlane s 2 → s.width.toNat % 2 = 0 →
    ∃ t, exec (.fallback tag) s = .next t ∧ Completed s t [⟨.formatFallback, 0, 0, tag.setWidth 16⟩] ∧
      (∀ a, readRaw t a = readRaw s a) ∧
      Painted s t fun y x =>
        let g := y * s.stride.toNat + 4 * (x / 2)
        yuvToRgb (readRaw s (g + 2 * (x % 2))) (readRaw s (g + 1)) (readRaw s (g + 3))

/-! ### The Bayer decodes -/

/-- The 8-bit Bayer tags: the phase warning, the samples normalised in place, the output of the selected kernel on the
normalised samples (R300 to R303, R305 to R310). -/
def Obligations.DecodesBayer8 : Prop :=
  ∀ (s : State) (a : Alg) (i : Instr) (log : List DiagEntry),
    (i, log) ∈
      [(Instr.sgrbg8, []), (.srggb8, [⟨.cfaPhase, 0, 0, 0x61⟩]), (.sbggr8, [⟨.cfaPhase, 0, 0, 0x62⟩]),
       (.sgbrg8, [⟨.cfaPhase, 0, 0, 0x63⟩])] →
    BayerPlane s 1 → s.sel8 = a.id →
      ∃ t, exec i s = .next t ∧ Completed s t log ∧ Normalised s t 1 0 255 ∧ Painted s t (kernelPixel a .d8 t)

/-- The 10-bit Bayer tags: the phase warning, then the range warnings in raster order, the samples shifted and
normalised in place, the output of the selected kernel (R300 to R306, R311 to R314). -/
def Obligations.DecodesBayer10 : Prop :=
  ∀ (s : State) (a : Alg) (i : Instr) (log : List DiagEntry),
    (i, log) ∈
      [(Instr.sgrbg10, []), (.srggb10, [⟨.cfaPhase, 0, 0, 0x69⟩]), (.sbggr10, [⟨.cfaPhase, 0, 0, 0x6A⟩]),
       (.sgbrg10, [⟨.cfaPhase, 0, 0, 0x6B⟩])] →
    BayerPlane s 2 → (a = .cottnoip ∨ a = .gptm) → s.sel10 = a.id →
      let sh := if s.ctrl.getLsbD 1 then 6 else 0
      ∃ t, exec i s = .next t ∧ Completed s t (log ++ rangeEntries s sh) ∧ Normalised s t 2 sh 1023 ∧
        Painted s t (kernelPixel a .d10 t)

/-- A Bayer decode is its normalisation pass followed by the kernel row of the slot: a step from the point between the
two passes reaches the very state the whole decode reaches (R300, R305). That a state can stand at that point and a
step go on from it is the model's choice (log 4). -/
def Obligations.BayerRunsKernelRow : Prop :=
  ∀ (s : State) (f : Format) (d : Depth) (p : CfaPhase) (i : Instr),
    bayerTag f = some (d, p) → s.status.halt = false → ChecksPass f s →
    decode (.kernel (kernelKey (match d with | .d8 => s.sel8 | .d10 => s.sel10) d)) = .ok i →
      ∃ t m u, exec f.instr s = .next t ∧
        m = { t with
              sp := ⟨.kern, 0, 0⟩, cmd := BitVec.ofNat 32 (1 + 256 * f.tag.toNat), rgb := s.rgb
              status := { s.status with busy := true, done := false } } ∧
        exec i m = .next u ∧ u.rgb = t.rgb ∧ u.raw = t.raw ∧ step m = .next t

/-- The declared phase changes the log only, and `WARN` and `WARN_COUNT` with it: the four tags of a depth leave every
other register, `RAW` and `RGB` the same (R301, R308). -/
def Obligations.DeclaredPhaseSameImage : Prop :=
  ∀ (s : State) (f g : Format) (fs : List Format), fs ∈ [bayer8Formats, bayer10Formats] → f ∈ fs → g ∈ fs →
    ∃ t t', exec f.instr s = .next t ∧ exec g.instr s = .next t' ∧
      t' = { t with
              status := { t.status with warn := t'.status.warn }, warnCount := t'.warnCount, diag := t'.diag }

/-- Raising `BRIGHTNESS` never lowers a normalised sample, which never exceeds the range of its depth (the spec's
inference from R303: "Normalisation is saturating and monotonic", R315). -/
def Obligations.NormalisationMonotone : Prop :=
  ∀ (s : State) (b : Half) (f : Format) (p top : Nat),
    (f ∈ bayer8Formats ∧ p = 1 ∧ top = 255) ∨ (f ∈ bayer10Formats ∧ p = 2 ∧ top = 1023) →
    s.status.halt = false → ChecksPass f s →
    (∃ a d ph, bayerTag f = some (d, ph) ∧ (match d with | .d8 => s.sel8 | .d10 => s.sel10) = Alg.id a ∧
      hasKernel a d = true) →
    s.brightness.toNat ≤ b.toNat →
      ∃ t t', exec f.instr s = .next t ∧ exec f.instr { s with brightness := b } = .next t' ∧
        t.status.result = .ok ∧ t'.status.result = .ok ∧
        ∀ y x, y < s.height.toNat → x < s.width.toNat →
          containerAt p t (y * s.stride.toNat + p * x) ≤ containerAt p t' (y * s.stride.toNat + p * x) ∧
          containerAt p t' (y * s.stride.toNat + p * x) ≤ top

/-! ### The kernels -/

/-- `cottnoip` at both depths: every sample of the 2x2 window copied (R156, R157). That the row runs on its own, in
any state whose plane and output fit the memories (a halted engine, an odd `W` or `H`, a short stride), is the model's
choice (logs 8 and 14); at depth 10 so is the byte of a container above 1023 (log 15). -/
def Obligations.KernelCottnoip : Prop :=
  ∀ s : State,
    (KernelFits s 1 → ∃ t, exec .cottnoip8 s = .next t ∧ KernelRan s t ∧ (∀ a, readRaw t a = readRaw s a) ∧
      Painted s t fun y x =>
        let c := sample .d8 s y x
        let h := nb .d8 s y x 0 1
        let v := nb .d8 s y x 1 0
        let q := nb .d8 s y x 1 1
        sitePixel 1 y x (h, c, v) (c, h, q) (q, h, c) (v, c, h)) ∧
    (KernelFits s 2 → ∃ t, exec .cottnoip10 s = .next t ∧ KernelRan s t ∧ (∀ a, readRaw t a = readRaw s a) ∧
      Painted s t fun y x =>
        let c := sample .d10 s y x
        let h := nb .d10 s y x 0 1
        let v := nb .d10 s y x 1 0
        let q := nb .d10 s y x 1 1
        sitePixel 4 y x (h, c, v) (c, h, q) (q, h, c) (v, c, h))

/-- `cott`: as `cottnoip` with green the mean of the window's two greens, a tie rounded up (R153, R158). That the row
runs on its own, in any state whose plane and output fit the memories (a halted engine, an odd `W` or `H`, a short
stride), is the model's choice (logs 8 and 14). -/
def Obligations.KernelCott : Prop :=
  ∀ s : State, KernelFits s 1 →
    ∃ t, exec .cott8 s = .next t ∧ KernelRan s t ∧ (∀ a, readRaw t a = readRaw s a) ∧
      Painted s t fun y x =>
        let c := sample .d8 s y x
        let h := nb .d8 s y x 0 1
        let v := nb .d8 s y x 1 0
        let q := nb .d8 s y x 1 1
        sitePixel 1 y x (h, (c + q + 1) / 2, v) (c, (h + v + 1) / 2, q) (q, (h + v + 1) / 2, c)
          (v, (c + q + 1) / 2, h)

/-- `horip`: means along the row, the lacking channel from the row below, above for the last row (R153, R160). That
the row runs on its own, in any state whose plane and output fit the memories (a halted engine, an odd `W` or `H`, a
short stride), is the model's choice (logs 8 and 14). -/
def Obligations.KernelHorip : Prop :=
  ∀ s : State, KernelFits s 1 →
    ∃ t, exec .horip8 s = .next t ∧ KernelRan s t ∧ (∀ a, readRaw t a = readRaw s a) ∧
      Painted s t fun y x =>
        let yp := if y + 1 < s.height.toNat then y + 1 else y - 1
        let c := sample .d8 s y x
        let m := (nb .d8 s y x 0 (-1) + nb .d8 s y x 0 1 + 1) / 2
        let pc := sample .d8 s yp x
        let pm := (sample .d8 s yp (mirror x (-1) s.width.toNat) + sample .d8 s yp (mirror x 1 s.width.toNat) + 1) / 2
        sitePixel 1 y x (m, c, pc) (c, m, pm) (pm, m, c) (pc, c, m)

/-- `ip`: means of two or four neighbours, ties rounded up (R153, R162). That the row runs on its own, in any state
whose plane and output fit the memories (a halted engine, an odd `W` or `H`, a short stride), is the model's choice
(logs 8 and 14). -/
def Obligations.KernelIp : Prop :=
  ∀ s : State, KernelFits s 1 →
    ∃ t, exec .ip8 s = .next t ∧ KernelRan s t ∧ (∀ a, readRaw t a = readRaw s a) ∧
      Painted s t fun y x =>
        let n := nb .d8 s y x
        let c := sample .d8 s y x
        let hor := (n 0 (-1) + n 0 1 + 1) / 2
        let ver := (n (-1) 0 + n 1 0 + 1) / 2
        let orth := (n (-1) 0 + n 1 0 + n 0 (-1) + n 0 1 + 2) / 4
        let dia := (n (-1) (-1) + n (-1) 1 + n 1 (-1) + n 1 1 + 2) / 4
        sitePixel 1 y x (hor, c, ver) (c, orth, dia) (dia, orth, c) (ver, c, hor)

/-- `gptm` at both depths: the blend of R204 and R205 with the detail term of R203 and the weights of R201 from
`SHARPNESS` (R206 at depth 10). That the row runs on its own, in any state whose plane and output fit the memories (a
halted engine, an odd `W` or `H`, a short stride), is the model's choice (logs 8 and 14); at depth 10 so is the byte
of a container above 1023 (log 15). -/
def Obligations.KernelGptm : Prop :=
  ∀ s : State,
    let f : Nat → Nat := fun v => v * v / 65536
    let wt : Nat → Nat := fun k => min 1023 (k * f (f s.sharpness.toNat) / 1024)
    (KernelFits s 1 → ∃ t, exec .gptm8 s = .next t ∧ KernelRan s t ∧ (∀ a, readRaw t a = readRaw s a) ∧
      Painted s t (adaptiveShown .d8 1 255 (wt 144) (wt 160) (wt 120) (wt 192) (wt 120) (wt 168) s)) ∧
    (KernelFits s 2 → ∃ t, exec .gptm10 s = .next t ∧ KernelRan s t ∧ (∀ a, readRaw t a = readRaw s a) ∧
      Painted s t (adaptiveShown .d10 4 1023 (wt 144) (wt 160) (wt 120) (wt 192) (wt 120) (wt 168) s))

/-- `gptm_fast`: the blend of R205 with the base constants as weights (R202, R208). That the row runs on its own, in
any state whose plane and output fit the memories (a halted engine, an odd `W` or `H`, a short stride), is the model's
choice (logs 8 and 14). -/
def Obligations.KernelGptmFast : Prop :=
  ∀ s : State, KernelFits s 1 →
    ∃ t, exec .gptmFast8 s = .next t ∧ KernelRan s t ∧ (∀ a, readRaw t a = readRaw s a) ∧
      Painted s t (adaptiveShown .d8 1 255 144 160 120 192 120 168 s)

/-- R152: a neighbour is the sample at the mirrored position, which lies inside the plane and has the parity of the
true one. -/
def Obligations.NeighbourRule : Prop :=
  (∀ (c : Nat) (d : Int) (n : Nat), c < n →
    (0 ≤ (c : Int) + d ∧ (c : Int) + d < n → (mirror c d n : Int) = c + d) ∧
    (¬(0 ≤ (c : Int) + d ∧ (c : Int) + d < n) → 0 ≤ (c : Int) - d ∧ (c : Int) - d < n →
      (mirror c d n : Int) = c - d) ∧
    (¬(0 ≤ (c : Int) + d ∧ (c : Int) + d < n) → ¬(0 ≤ (c : Int) - d ∧ (c : Int) - d < n) → mirror c d n = c) ∧
    mirror c d n < n ∧
    (2 ≤ n → -2 ≤ d → d ≤ 2 → (mirror c d n : Int) % 2 = (c + d) % 2) ∧
    (2 ≤ n → -1 ≤ d → d ≤ 1 → (mirror c d n : Int) = c + d ∨ (mirror c d n : Int) = c - d) ∧
    (2 ≤ n → n % 2 = 0 → -2 ≤ d → d ≤ 2 → ¬(0 ≤ (c : Int) + d ∧ (c : Int) + d < n) →
      ¬(0 ≤ (c : Int) - d ∧ (c : Int) - d < n) → n = 2 ∧ (d = 2 ∨ d = -2))) ∧
  (∀ (dep : Depth) (s : State) (y x : Nat) (dy dx : Int),
    nb dep s y x dy dx = sample dep s (mirror y dy s.height.toNat) (mirror x dx s.width.toNat)) ∧
  (∀ (s : State) (y x : Nat), sample .d8 s y x = containerAt 1 s (y * s.stride.toNat + x) ∧
    sample .d10 s y x = containerAt 2 s (y * s.stride.toNat + 2 * x))

/-- Demosaicing keeps known samples: the channel a site holds comes out as the sample itself, for every kernel but the
green of `cott` (the spec's inference from the kernels' tables: "Known samples are kept", R164, R210). That a row runs
on its own is the model's choice (logs 8 and 14); at depth 10 so is the byte of a container above 1023 (log 15). -/
def Obligations.KnownSamplesKept : Prop :=
  ∀ (s : State) (i : Instr) (d : Depth) (p q : Nat),
    (i, d, p, q) ∈
      [(Instr.cottnoip8, Depth.d8, 1, 1), (.cottnoip10, .d10, 2, 4), (.cott8, .d8, 1, 1), (.horip8, .d8, 1, 1),
       (.ip8, .d8, 1, 1), (.gptm8, .d8, 1, 1), (.gptm10, .d10, 2, 4), (.gptmFast8, .d8, 1, 1)] →
    KernelFits s p →
      ∃ t, exec i s = .next t ∧ ∀ y x, y < s.height.toNat → x < s.width.toNat →
        let a := 3 * (y * s.width.toNat + x)
        let red := if s.ctrl.getLsbD 0 then 2 else 0
        let own := BitVec.ofNat 8 (sample d s y x / q)
        (y % 2 = x % 2 → i ≠ .cott8 → readRgb t (a + 1) = own) ∧
        (y % 2 = 0 → x % 2 = 1 → readRgb t (a + red) = own) ∧
        (y % 2 = 1 → x % 2 = 0 → readRgb t (a + (2 - red)) = own)

/-- A flat plane comes out flat, for every kernel and every `SHARPNESS` (the spec's inference: R165 (a), R210 (b)).
That a row runs on its own is the model's choice (logs 8 and 14). -/
def Obligations.FlatPlane : Prop :=
  ∀ (s : State) (i : Instr) (d : Depth) (p q k : Nat),
    (i, d, p, q) ∈
      [(Instr.cottnoip8, Depth.d8, 1, 1), (.cottnoip10, .d10, 2, 4), (.cott8, .d8, 1, 1), (.horip8, .d8, 1, 1),
       (.ip8, .d8, 1, 1), (.gptm8, .d8, 1, 1), (.gptm10, .d10, 2, 4), (.gptmFast8, .d8, 1, 1)] →
    KernelFits s p → k < 256 * q →
    (∀ y x, y < s.height.toNat → x < s.width.toNat → sample d s y x = k) →
      ∃ t, exec i s = .next t ∧ ∀ a < 3 * s.width.toNat * s.height.toNat, readRgb t a = BitVec.ofNat 8 (k / q)

/-- The four kernels without a detail term never lower an output byte when samples are raised (the spec's inference:
R165 (b)). That a row runs on its own is the model's choice (logs 8 and 14). -/
def Obligations.KernelMonotone : Prop :=
  ∀ (s : State) (m : Memory) (i : Instr), i ∈ [Instr.cottnoip8, .cott8, .horip8, .ip8] → KernelFits s 1 →
    (∀ a, (readRaw s a).toNat ≤ (readRaw { s with raw := m } a).toNat) →
      ∃ t t', exec i s = .next t ∧ exec i { s with raw := m } = .next t' ∧
        ∀ a < 3 * s.width.toNat * s.height.toNat, (readRgb t a).toNat ≤ (readRgb t' a).toNat

/-- With `SHARPNESS` at most 4096 `gptm` at depth 8 is `ip`, bit for bit, and its weights are all 0 exactly when
`f(f(s)) ≤ 5` (the spec's inference from R201, R204, R205 and R162: "Sharpness 0 is bilinear", R209). The equation of
the rows holds in every state, the stops of log 8 included. -/
def Obligations.LowSharpnessIsBilinear : Prop :=
  (∀ s : State, s.sharpness.toNat ≤ 4096 → exec .gptm8 s = exec .ip8 s) ∧
  (∀ v : Half, v.toNat ≤ 4096 → gptmWeights v = ⟨0, 0, 0, 0, 0, 0⟩) ∧
  ∀ v : Half, gptmWeights v = ⟨0, 0, 0, 0, 0, 0⟩ ↔
    (v.toNat * v.toNat / 65536) * (v.toNat * v.toNat / 65536) / 65536 ≤ 5

/-- With `SHARPNESS = 23171` `gptm` at depth 8 is `gptm_fast` (the spec's inference from R201, R202 and R208, R211).
The equation of the rows holds in every state, the stops of log 8 included. -/
def Obligations.OptimalSharpnessIsFast : Prop :=
  ∀ s : State, s.sharpness = 23171#16 → exec .gptm8 s = exec .gptmFast8 s

/-! ### The traps -/

/-- A failing geometry condition ends the command with `E_GEOMETRY`, whatever else is wrong, and changes nothing but
`STATUS` (R226, R235, R333). -/
def Obligations.GeometryErrorEnds : Prop :=
  ∀ (s : State) (i : Instr) (f : Format), DecodesAs i f → s.status.halt = false →
    GeometryBad f s.width.toNat s.height.toNat s.stride.toNat →
      ∃ t, exec i s = .next t ∧ EndedWith s t .geometry ∧ t.status.word = 0x22#32

/-- With the geometry legal, a failing buffer condition ends the command with `E_BUFFER`, even when the slot is empty,
and changes nothing but `STATUS` (R228, R325, and R333 for the order of the causes). -/
def Obligations.BufferErrorEnds : Prop :=
  ∀ (s : State) (i : Instr) (f : Format), DecodesAs i f → s.status.halt = false →
    ¬GeometryBad f s.width.toNat s.height.toNat s.stride.toNat → BufferBad f s →
      ∃ t, exec i s = .next t ∧ EndedWith s t .buffer ∧ t.status.word = 0x32#32

/-- With geometry and buffers legal, an empty slot of the tag's depth halts the engine with `F_NO_KERNEL` and changes
nothing but `STATUS` (R225, R328). -/
def Obligations.EmptySlotHalts : Prop :=
  ∀ (s : State) (f : Format), s.status.halt = false →
    ¬GeometryBad f s.width.toNat s.height.toNat s.stride.toNat → ¬BufferBad f s → SlotEmpty f s →
      ∃ t, exec f.instr s = .next t ∧ EndedWith s t .noKernel ∧ t.status.word = 0x46#32

/-- The only way into `HALT`: from a state of the invariant, a step halts the engine only by a 10-bit Bayer `DECODE`
while `SEL10 = 0xF`; an 8-bit decode never does (R305, R328, R332). -/
def Obligations.OnlyEmptySlotHalts : Prop :=
  ∀ s t : State, Inv s → s.status.halt = false → step s = .next t → t.status.halt = true →
    ∃ w rest f, s.port = .regWrite 0 w :: rest ∧ f ∈ bayer10Formats ∧ w.toNat = 1 + 256 * f.tag.toNat ∧
      s.sel10 = 0xF#4 ∧ t.status.result = .noKernel ∧ (∀ a, readRaw t a = readRaw s a) ∧
      (∀ a, readRgb t a = readRgb s a) ∧ t.diag = s.diag

/-! ### The whole machine -/

/-- Every step keeps the invariant of the machine between commands (R27, R30, R40, R139, R327, R330). -/
def Obligations.InvKept : Prop :=
  ∀ s t : State, Inv s → step s = .next t → Inv t

/-- The machine right after reset meets the invariant (R43). -/
def Obligations.InvReset : Prop := Inv State.reset

/-- For the same starting state, `SWAP_RB` exchanges bytes `3k` and `3k + 2` of the output of a `DECODE` that ends
with `R_OK`, and nothing else (the spec's inference from R232: "Swap law", R233). -/
def Obligations.SwapLaw : Prop :=
  ∀ (s : State) (i : Instr) (f : Format), DecodesAs i f → s.ctrl.getLsbD 0 = false → s.status.halt = false →
      ∃ t t', exec i s = .next t ∧ exec i { s with ctrl := s.ctrl ||| 1#2 } = .next t' ∧
        t'.raw = t.raw ∧ t'.diag = t.diag ∧ t'.warnCount = t.warnCount ∧ t'.status = t.status ∧
        (t.status.result = .ok → ∀ k < s.width.toNat * s.height.toNat,
          readRgb t' (3 * k) = readRgb t (3 * k + 2) ∧ readRgb t' (3 * k + 1) = readRgb t (3 * k + 1) ∧
            readRgb t' (3 * k + 2) = readRgb t (3 * k)) ∧
        ∀ a, 3 * s.width.toNat * s.height.toNat ≤ a → readRgb t' a = readRgb t a

/-- A `DECODE` is a function of the command, the geometry, the lengths, `CTRL`, the first `src_need` bytes of `RAW`,
for a Bayer tag also `BRIGHTNESS`, `SEL` and, when `gptm` runs, `SHARPNESS`: two states that agree on these give the
same status, the same appended log, the same source bytes and the same image (the spec's inference from R221, R237 and
R42: "A `DECODE` is a function", R240); no byte of `RAW` at or beyond `src_need` is read or written (R66). The
attached sizes are compared with the lengths by R228. -/
def Obligations.DependsOnlyOnSource : Prop :=
  ∀ (s s' : State) (i : Instr) (f : Format), DecodesAs i f →
    s.status.halt = false → s'.status.halt = false →
    s'.width = s.width → s'.height = s.height → s'.stride = s.stride → s'.rawLen = s.rawLen →
    s'.rgbLen = s.rgbLen → s'.ctrl = s.ctrl → s'.rawSize = s.rawSize → s'.rgbSize = s.rgbSize →
    (f ∈ bayer8Formats ++ bayer10Formats →
      s'.brightness = s.brightness ∧ s'.sel8 = s.sel8 ∧ s'.sel10 = s.sel10) →
    ((f ∈ bayer8Formats ∧ s.sel8 = 4#4) ∨ (f ∈ bayer10Formats ∧ s.sel10 = 4#4) → s'.sharpness = s.sharpness) →
    (∀ a < sourceNeed f s.width.toNat s.height.toNat s.stride.toNat, readRaw s' a = readRaw s a) →
      ∃ t t', exec i s = .next t ∧ exec i s' = .next t' ∧ t'.status = t.status ∧
        (∀ a, sourceNeed f s.width.toNat s.height.toNat s.stride.toNat ≤ a → readRaw t a = readRaw s a) ∧
        (∀ a < sourceNeed f s.width.toNat s.height.toNat s.stride.toNat, readRaw t' a = readRaw t a) ∧
        (t.status.result = .ok →
          t'.warnCount = t.warnCount ∧ (∃ log, t.diag = s.diag ++ log ∧ t'.diag = s'.diag ++ log) ∧
          ∀ a < 3 * s.width.toNat * s.height.toNat, readRgb t' a = readRgb t a)

/-- An image whose luma, Cb and Cr positions each hold one value decodes to one colour, the conversion of the three,
for the thirteen YUV formats and the fallback (the spec's inference from R250 to R263: "Constant image", R264). The
positions are given by the planes of each layout. -/
def Obligations.ConstantImage : Prop :=
  ∀ (s : State) (i : Instr) (f : Format) (y0 u0 v0 : Byte), DecodesAs i f → s.status.halt = false → ChecksPass f s →
    let w := s.width.toNat
    let h := s.height.toNat
    let plane : Nat → Nat → Byte → Prop := fun start len b => ∀ k < len, readRaw s (start + k) = b
    let pairs : Nat → Byte → Byte → Prop := fun len b c =>
      ∀ k < len, readRaw s (w * h + 2 * k) = b ∧ readRaw s (w * h + 2 * k + 1) = c
    let groups : Nat → Nat → Nat → Prop := fun l u v =>
      ∀ y k, y < h → k < w / 2 →
        readRaw s (y * s.stride.toNat + 4 * k + l) = y0 ∧ readRaw s (y * s.stride.toNat + 4 * k + l + 2) = y0 ∧
          readRaw s (y * s.stride.toNat + 4 * k + u) = u0 ∧ readRaw s (y * s.stride.toNat + 4 * k + v) = v0
    let planes : Nat → Byte → Byte → Prop := fun n b c =>
      plane 0 (w * h) y0 ∧ plane (w * h) n b ∧ plane (w * h + n) n c
    (f = .yuyv ∧ groups 0 1 3) ∨ (f = .uyvy ∧ groups 1 0 2) ∨
      (f = .nv12 ∧ plane 0 (w * h) y0 ∧ pairs (w / 2 * (h / 2)) u0 v0) ∨
      (f = .nv21 ∧ plane 0 (w * h) y0 ∧ pairs (w / 2 * (h / 2)) v0 u0) ∨
      (f = .nv16 ∧ plane 0 (w * h) y0 ∧ pairs (w / 2 * h) u0 v0) ∨
      (f = .yuv411p ∧ planes (w / 4 * h) u0 v0) ∨ (f = .yvu411p ∧ planes (w / 4 * h) v0 u0) ∨
      (f = .yuv420p ∧ planes (w / 2 * (h / 2)) u0 v0) ∨ (f = .yvu420p ∧ planes (w / 2 * (h / 2)) v0 u0) ∨
      (f = .yuv422p ∧ planes (w / 2 * h) u0 v0) ∨ (f = .yvu422p ∧ planes (w / 2 * h) v0 u0) ∨
      (f = .yuv444p ∧ planes (w * h) u0 v0) ∨ (f = .yvu444p ∧ planes (w * h) v0 u0) →
      ∃ t, exec i s = .next t ∧ t.status.result = .ok ∧ Painted s t fun _ _ => yuvToRgb y0 u0 v0
end

