-- ==== Sys2Proof/Laws/State.lean ====
section
/-! SUPPORT. One lemma per field per update of the state, each true by unfolding, so that no later proof opens a record
update. -/

namespace Sys2Proof.Machine

/-! ### `writeRaw` -/

@[simp] theorem writeRaw_status (a : Nat) (v : Byte) (s : State) : (writeRaw a v s).status = s.status := rfl
@[simp] theorem writeRaw_ctrl (a : Nat) (v : Byte) (s : State) : (writeRaw a v s).ctrl = s.ctrl := rfl
@[simp] theorem writeRaw_width (a : Nat) (v : Byte) (s : State) : (writeRaw a v s).width = s.width := rfl
@[simp] theorem writeRaw_height (a : Nat) (v : Byte) (s : State) : (writeRaw a v s).height = s.height := rfl
@[simp] theorem writeRaw_stride (a : Nat) (v : Byte) (s : State) : (writeRaw a v s).stride = s.stride := rfl
@[simp] theorem writeRaw_rawLen (a : Nat) (v : Byte) (s : State) : (writeRaw a v s).rawLen = s.rawLen := rfl
@[simp] theorem writeRaw_rgbLen (a : Nat) (v : Byte) (s : State) : (writeRaw a v s).rgbLen = s.rgbLen := rfl
@[simp] theorem writeRaw_brightness (a : Nat) (v : Byte) (s : State) :
    (writeRaw a v s).brightness = s.brightness := rfl
@[simp] theorem writeRaw_sharpness (a : Nat) (v : Byte) (s : State) : (writeRaw a v s).sharpness = s.sharpness := rfl
@[simp] theorem writeRaw_sel8 (a : Nat) (v : Byte) (s : State) : (writeRaw a v s).sel8 = s.sel8 := rfl
@[simp] theorem writeRaw_sel10 (a : Nat) (v : Byte) (s : State) : (writeRaw a v s).sel10 = s.sel10 := rfl
@[simp] theorem writeRaw_warnCount (a : Nat) (v : Byte) (s : State) : (writeRaw a v s).warnCount = s.warnCount := rfl
@[simp] theorem writeRaw_name0 (a : Nat) (v : Byte) (s : State) : (writeRaw a v s).name0 = s.name0 := rfl
@[simp] theorem writeRaw_name1 (a : Nat) (v : Byte) (s : State) : (writeRaw a v s).name1 = s.name1 := rfl
@[simp] theorem writeRaw_name2 (a : Nat) (v : Byte) (s : State) : (writeRaw a v s).name2 = s.name2 := rfl
@[simp] theorem writeRaw_name3 (a : Nat) (v : Byte) (s : State) : (writeRaw a v s).name3 = s.name3 := rfl
@[simp] theorem writeRaw_lname0 (a : Nat) (v : Byte) (s : State) : (writeRaw a v s).lname0 = s.lname0 := rfl
@[simp] theorem writeRaw_lname1 (a : Nat) (v : Byte) (s : State) : (writeRaw a v s).lname1 = s.lname1 := rfl
@[simp] theorem writeRaw_lname2 (a : Nat) (v : Byte) (s : State) : (writeRaw a v s).lname2 = s.lname2 := rfl
@[simp] theorem writeRaw_lname3 (a : Nat) (v : Byte) (s : State) : (writeRaw a v s).lname3 = s.lname3 := rfl
@[simp] theorem writeRaw_lflags (a : Nat) (v : Byte) (s : State) : (writeRaw a v s).lflags = s.lflags := rfl
@[simp] theorem writeRaw_sp (a : Nat) (v : Byte) (s : State) : (writeRaw a v s).sp = s.sp := rfl
@[simp] theorem writeRaw_cmd (a : Nat) (v : Byte) (s : State) : (writeRaw a v s).cmd = s.cmd := rfl
@[simp] theorem writeRaw_rawSize (a : Nat) (v : Byte) (s : State) : (writeRaw a v s).rawSize = s.rawSize := rfl
@[simp] theorem writeRaw_rgbSize (a : Nat) (v : Byte) (s : State) : (writeRaw a v s).rgbSize = s.rgbSize := rfl
@[simp] theorem writeRaw_raw (a : Nat) (v : Byte) (s : State) : (writeRaw a v s).raw = memStore s.raw a v := rfl
@[simp] theorem writeRaw_rgb (a : Nat) (v : Byte) (s : State) : (writeRaw a v s).rgb = s.rgb := rfl
@[simp] theorem writeRaw_diag (a : Nat) (v : Byte) (s : State) : (writeRaw a v s).diag = s.diag := rfl
@[simp] theorem writeRaw_port (a : Nat) (v : Byte) (s : State) : (writeRaw a v s).port = s.port := rfl
@[simp] theorem writeRaw_rdata (a : Nat) (v : Byte) (s : State) : (writeRaw a v s).rdata = s.rdata := rfl

/-! ### `writeRgb` -/

@[simp] theorem writeRgb_status (a : Nat) (v : Byte) (s : State) : (writeRgb a v s).status = s.status := rfl
@[simp] theorem writeRgb_ctrl (a : Nat) (v : Byte) (s : State) : (writeRgb a v s).ctrl = s.ctrl := rfl
@[simp] theorem writeRgb_width (a : Nat) (v : Byte) (s : State) : (writeRgb a v s).width = s.width := rfl
@[simp] theorem writeRgb_height (a : Nat) (v : Byte) (s : State) : (writeRgb a v s).height = s.height := rfl
@[simp] theorem writeRgb_stride (a : Nat) (v : Byte) (s : State) : (writeRgb a v s).stride = s.stride := rfl
@[simp] theorem writeRgb_rawLen (a : Nat) (v : Byte) (s : State) : (writeRgb a v s).rawLen = s.rawLen := rfl
@[simp] theorem writeRgb_rgbLen (a : Nat) (v : Byte) (s : State) : (writeRgb a v s).rgbLen = s.rgbLen := rfl
@[simp] theorem writeRgb_brightness (a : Nat) (v : Byte) (s : State) :
    (writeRgb a v s).brightness = s.brightness := rfl
@[simp] theorem writeRgb_sharpness (a : Nat) (v : Byte) (s : State) : (writeRgb a v s).sharpness = s.sharpness := rfl
@[simp] theorem writeRgb_sel8 (a : Nat) (v : Byte) (s : State) : (writeRgb a v s).sel8 = s.sel8 := rfl
@[simp] theorem writeRgb_sel10 (a : Nat) (v : Byte) (s : State) : (writeRgb a v s).sel10 = s.sel10 := rfl
@[simp] theorem writeRgb_warnCount (a : Nat) (v : Byte) (s : State) : (writeRgb a v s).warnCount = s.warnCount := rfl
@[simp] theorem writeRgb_name0 (a : Nat) (v : Byte) (s : State) : (writeRgb a v s).name0 = s.name0 := rfl
@[simp] theorem writeRgb_name1 (a : Nat) (v : Byte) (s : State) : (writeRgb a v s).name1 = s.name1 := rfl
@[simp] theorem writeRgb_name2 (a : Nat) (v : Byte) (s : State) : (writeRgb a v s).name2 = s.name2 := rfl
@[simp] theorem writeRgb_name3 (a : Nat) (v : Byte) (s : State) : (writeRgb a v s).name3 = s.name3 := rfl
@[simp] theorem writeRgb_lname0 (a : Nat) (v : Byte) (s : State) : (writeRgb a v s).lname0 = s.lname0 := rfl
@[simp] theorem writeRgb_lname1 (a : Nat) (v : Byte) (s : State) : (writeRgb a v s).lname1 = s.lname1 := rfl
@[simp] theorem writeRgb_lname2 (a : Nat) (v : Byte) (s : State) : (writeRgb a v s).lname2 = s.lname2 := rfl
@[simp] theorem writeRgb_lname3 (a : Nat) (v : Byte) (s : State) : (writeRgb a v s).lname3 = s.lname3 := rfl
@[simp] theorem writeRgb_lflags (a : Nat) (v : Byte) (s : State) : (writeRgb a v s).lflags = s.lflags := rfl
@[simp] theorem writeRgb_sp (a : Nat) (v : Byte) (s : State) : (writeRgb a v s).sp = s.sp := rfl
@[simp] theorem writeRgb_cmd (a : Nat) (v : Byte) (s : State) : (writeRgb a v s).cmd = s.cmd := rfl
@[simp] theorem writeRgb_rawSize (a : Nat) (v : Byte) (s : State) : (writeRgb a v s).rawSize = s.rawSize := rfl
@[simp] theorem writeRgb_rgbSize (a : Nat) (v : Byte) (s : State) : (writeRgb a v s).rgbSize = s.rgbSize := rfl
@[simp] theorem writeRgb_raw (a : Nat) (v : Byte) (s : State) : (writeRgb a v s).raw = s.raw := rfl
@[simp] theorem writeRgb_rgb (a : Nat) (v : Byte) (s : State) : (writeRgb a v s).rgb = memStore s.rgb a v := rfl
@[simp] theorem writeRgb_diag (a : Nat) (v : Byte) (s : State) : (writeRgb a v s).diag = s.diag := rfl
@[simp] theorem writeRgb_port (a : Nat) (v : Byte) (s : State) : (writeRgb a v s).port = s.port := rfl
@[simp] theorem writeRgb_rdata (a : Nat) (v : Byte) (s : State) : (writeRgb a v s).rdata = s.rdata := rfl

/-! ### `logDiag` -/

@[simp] theorem logDiag_status (c : DiagCode) (x y : Word) (v : Half) (s : State) :
    (logDiag c x y v s).status = s.status := rfl
@[simp] theorem logDiag_ctrl (c : DiagCode) (x y : Word) (v : Half) (s : State) :
    (logDiag c x y v s).ctrl = s.ctrl := rfl
@[simp] theorem logDiag_width (c : DiagCode) (x y : Word) (v : Half) (s : State) :
    (logDiag c x y v s).width = s.width := rfl
@[simp] theorem logDiag_height (c : DiagCode) (x y : Word) (v : Half) (s : State) :
    (logDiag c x y v s).height = s.height := rfl
@[simp] theorem logDiag_stride (c : DiagCode) (x y : Word) (v : Half) (s : State) :
    (logDiag c x y v s).stride = s.stride := rfl
@[simp] theorem logDiag_rawLen (c : DiagCode) (x y : Word) (v : Half) (s : State) :
    (logDiag c x y v s).rawLen = s.rawLen := rfl
@[simp] theorem logDiag_rgbLen (c : DiagCode) (x y : Word) (v : Half) (s : State) :
    (logDiag c x y v s).rgbLen = s.rgbLen := rfl
@[simp] theorem logDiag_brightness (c : DiagCode) (x y : Word) (v : Half) (s : State) :
    (logDiag c x y v s).brightness = s.brightness := rfl
@[simp] theorem logDiag_sharpness (c : DiagCode) (x y : Word) (v : Half) (s : State) :
    (logDiag c x y v s).sharpness = s.sharpness := rfl
@[simp] theorem logDiag_sel8 (c : DiagCode) (x y : Word) (v : Half) (s : State) :
    (logDiag c x y v s).sel8 = s.sel8 := rfl
@[simp] theorem logDiag_sel10 (c : DiagCode) (x y : Word) (v : Half) (s : State) :
    (logDiag c x y v s).sel10 = s.sel10 := rfl
@[simp] theorem logDiag_warnCount (c : DiagCode) (x y : Word) (v : Half) (s : State) :
    (logDiag c x y v s).warnCount = s.warnCount + 1 := rfl
@[simp] theorem logDiag_name0 (c : DiagCode) (x y : Word) (v : Half) (s : State) :
    (logDiag c x y v s).name0 = s.name0 := rfl
@[simp] theorem logDiag_name1 (c : DiagCode) (x y : Word) (v : Half) (s : State) :
    (logDiag c x y v s).name1 = s.name1 := rfl
@[simp] theorem logDiag_name2 (c : DiagCode) (x y : Word) (v : Half) (s : State) :
    (logDiag c x y v s).name2 = s.name2 := rfl
@[simp] theorem logDiag_name3 (c : DiagCode) (x y : Word) (v : Half) (s : State) :
    (logDiag c x y v s).name3 = s.name3 := rfl
@[simp] theorem logDiag_lname0 (c : DiagCode) (x y : Word) (v : Half) (s : State) :
    (logDiag c x y v s).lname0 = s.lname0 := rfl
@[simp] theorem logDiag_lname1 (c : DiagCode) (x y : Word) (v : Half) (s : State) :
    (logDiag c x y v s).lname1 = s.lname1 := rfl
@[simp] theorem logDiag_lname2 (c : DiagCode) (x y : Word) (v : Half) (s : State) :
    (logDiag c x y v s).lname2 = s.lname2 := rfl
@[simp] theorem logDiag_lname3 (c : DiagCode) (x y : Word) (v : Half) (s : State) :
    (logDiag c x y v s).lname3 = s.lname3 := rfl
@[simp] theorem logDiag_lflags (c : DiagCode) (x y : Word) (v : Half) (s : State) :
    (logDiag c x y v s).lflags = s.lflags := rfl
@[simp] theorem logDiag_sp (c : DiagCode) (x y : Word) (v : Half) (s : State) : (logDiag c x y v s).sp = s.sp := rfl
@[simp] theorem logDiag_cmd (c : DiagCode) (x y : Word) (v : Half) (s : State) :
    (logDiag c x y v s).cmd = s.cmd := rfl
@[simp] theorem logDiag_rawSize (c : DiagCode) (x y : Word) (v : Half) (s : State) :
    (logDiag c x y v s).rawSize = s.rawSize := rfl
@[simp] theorem logDiag_rgbSize (c : DiagCode) (x y : Word) (v : Half) (s : State) :
    (logDiag c x y v s).rgbSize = s.rgbSize := rfl
@[simp] theorem logDiag_raw (c : DiagCode) (x y : Word) (v : Half) (s : State) :
    (logDiag c x y v s).raw = s.raw := rfl
@[simp] theorem logDiag_rgb (c : DiagCode) (x y : Word) (v : Half) (s : State) :
    (logDiag c x y v s).rgb = s.rgb := rfl
@[simp] theorem logDiag_diag (c : DiagCode) (x y : Word) (v : Half) (s : State) :
    (logDiag c x y v s).diag = s.diag ++ [⟨c, x, y, v⟩] := rfl
@[simp] theorem logDiag_port (c : DiagCode) (x y : Word) (v : Half) (s : State) :
    (logDiag c x y v s).port = s.port := rfl
@[simp] theorem logDiag_rdata (c : DiagCode) (x y : Word) (v : Half) (s : State) :
    (logDiag c x y v s).rdata = s.rdata := rfl

/-! ### `setSp` -/

@[simp] theorem setSp_status (ph : Phase) (y x : Nat) (s : State) : (setSp ph y x s).status = s.status := rfl
@[simp] theorem setSp_ctrl (ph : Phase) (y x : Nat) (s : State) : (setSp ph y x s).ctrl = s.ctrl := rfl
@[simp] theorem setSp_width (ph : Phase) (y x : Nat) (s : State) : (setSp ph y x s).width = s.width := rfl
@[simp] theorem setSp_height (ph : Phase) (y x : Nat) (s : State) : (setSp ph y x s).height = s.height := rfl
@[simp] theorem setSp_stride (ph : Phase) (y x : Nat) (s : State) : (setSp ph y x s).stride = s.stride := rfl
@[simp] theorem setSp_rawLen (ph : Phase) (y x : Nat) (s : State) : (setSp ph y x s).rawLen = s.rawLen := rfl
@[simp] theorem setSp_rgbLen (ph : Phase) (y x : Nat) (s : State) : (setSp ph y x s).rgbLen = s.rgbLen := rfl
@[simp] theorem setSp_brightness (ph : Phase) (y x : Nat) (s : State) :
    (setSp ph y x s).brightness = s.brightness := rfl
@[simp] theorem setSp_sharpness (ph : Phase) (y x : Nat) (s : State) :
    (setSp ph y x s).sharpness = s.sharpness := rfl
@[simp] theorem setSp_sel8 (ph : Phase) (y x : Nat) (s : State) : (setSp ph y x s).sel8 = s.sel8 := rfl
@[simp] theorem setSp_sel10 (ph : Phase) (y x : Nat) (s : State) : (setSp ph y x s).sel10 = s.sel10 := rfl
@[simp] theorem setSp_warnCount (ph : Phase) (y x : Nat) (s : State) :
    (setSp ph y x s).warnCount = s.warnCount := rfl
@[simp] theorem setSp_name0 (ph : Phase) (y x : Nat) (s : State) : (setSp ph y x s).name0 = s.name0 := rfl
@[simp] theorem setSp_name1 (ph : Phase) (y x : Nat) (s : State) : (setSp ph y x s).name1 = s.name1 := rfl
@[simp] theorem setSp_name2 (ph : Phase) (y x : Nat) (s : State) : (setSp ph y x s).name2 = s.name2 := rfl
@[simp] theorem setSp_name3 (ph : Phase) (y x : Nat) (s : State) : (setSp ph y x s).name3 = s.name3 := rfl
@[simp] theorem setSp_lname0 (ph : Phase) (y x : Nat) (s : State) : (setSp ph y x s).lname0 = s.lname0 := rfl
@[simp] theorem setSp_lname1 (ph : Phase) (y x : Nat) (s : State) : (setSp ph y x s).lname1 = s.lname1 := rfl
@[simp] theorem setSp_lname2 (ph : Phase) (y x : Nat) (s : State) : (setSp ph y x s).lname2 = s.lname2 := rfl
@[simp] theorem setSp_lname3 (ph : Phase) (y x : Nat) (s : State) : (setSp ph y x s).lname3 = s.lname3 := rfl
@[simp] theorem setSp_lflags (ph : Phase) (y x : Nat) (s : State) : (setSp ph y x s).lflags = s.lflags := rfl
@[simp] theorem setSp_sp (ph : Phase) (y x : Nat) (s : State) :
    (setSp ph y x s).sp = ⟨ph, BitVec.ofNat 32 y, BitVec.ofNat 32 x⟩ := rfl
@[simp] theorem setSp_cmd (ph : Phase) (y x : Nat) (s : State) : (setSp ph y x s).cmd = s.cmd := rfl
@[simp] theorem setSp_rawSize (ph : Phase) (y x : Nat) (s : State) : (setSp ph y x s).rawSize = s.rawSize := rfl
@[simp] theorem setSp_rgbSize (ph : Phase) (y x : Nat) (s : State) : (setSp ph y x s).rgbSize = s.rgbSize := rfl
@[simp] theorem setSp_raw (ph : Phase) (y x : Nat) (s : State) : (setSp ph y x s).raw = s.raw := rfl
@[simp] theorem setSp_rgb (ph : Phase) (y x : Nat) (s : State) : (setSp ph y x s).rgb = s.rgb := rfl
@[simp] theorem setSp_diag (ph : Phase) (y x : Nat) (s : State) : (setSp ph y x s).diag = s.diag := rfl
@[simp] theorem setSp_port (ph : Phase) (y x : Nat) (s : State) : (setSp ph y x s).port = s.port := rfl
@[simp] theorem setSp_rdata (ph : Phase) (y x : Nat) (s : State) : (setSp ph y x s).rdata = s.rdata := rfl

/-! ### `emit` -/

@[simp] theorem emit_status (y x : Nat) (p : Rgb) (s : State) : (emit y x p s).status = s.status := rfl
@[simp] theorem emit_ctrl (y x : Nat) (p : Rgb) (s : State) : (emit y x p s).ctrl = s.ctrl := rfl
@[simp] theorem emit_width (y x : Nat) (p : Rgb) (s : State) : (emit y x p s).width = s.width := rfl
@[simp] theorem emit_height (y x : Nat) (p : Rgb) (s : State) : (emit y x p s).height = s.height := rfl
@[simp] theorem emit_stride (y x : Nat) (p : Rgb) (s : State) : (emit y x p s).stride = s.stride := rfl
@[simp] theorem emit_rawLen (y x : Nat) (p : Rgb) (s : State) : (emit y x p s).rawLen = s.rawLen := rfl
@[simp] theorem emit_rgbLen (y x : Nat) (p : Rgb) (s : State) : (emit y x p s).rgbLen = s.rgbLen := rfl
@[simp] theorem emit_brightness (y x : Nat) (p : Rgb) (s : State) : (emit y x p s).brightness = s.brightness := rfl
@[simp] theorem emit_sharpness (y x : Nat) (p : Rgb) (s : State) : (emit y x p s).sharpness = s.sharpness := rfl
@[simp] theorem emit_sel8 (y x : Nat) (p : Rgb) (s : State) : (emit y x p s).sel8 = s.sel8 := rfl
@[simp] theorem emit_sel10 (y x : Nat) (p : Rgb) (s : State) : (emit y x p s).sel10 = s.sel10 := rfl
@[simp] theorem emit_warnCount (y x : Nat) (p : Rgb) (s : State) : (emit y x p s).warnCount = s.warnCount := rfl
@[simp] theorem emit_name0 (y x : Nat) (p : Rgb) (s : State) : (emit y x p s).name0 = s.name0 := rfl
@[simp] theorem emit_name1 (y x : Nat) (p : Rgb) (s : State) : (emit y x p s).name1 = s.name1 := rfl
@[simp] theorem emit_name2 (y x : Nat) (p : Rgb) (s : State) : (emit y x p s).name2 = s.name2 := rfl
@[simp] theorem emit_name3 (y x : Nat) (p : Rgb) (s : State) : (emit y x p s).name3 = s.name3 := rfl
@[simp] theorem emit_lname0 (y x : Nat) (p : Rgb) (s : State) : (emit y x p s).lname0 = s.lname0 := rfl
@[simp] theorem emit_lname1 (y x : Nat) (p : Rgb) (s : State) : (emit y x p s).lname1 = s.lname1 := rfl
@[simp] theorem emit_lname2 (y x : Nat) (p : Rgb) (s : State) : (emit y x p s).lname2 = s.lname2 := rfl
@[simp] theorem emit_lname3 (y x : Nat) (p : Rgb) (s : State) : (emit y x p s).lname3 = s.lname3 := rfl
@[simp] theorem emit_lflags (y x : Nat) (p : Rgb) (s : State) : (emit y x p s).lflags = s.lflags := rfl
@[simp] theorem emit_sp (y x : Nat) (p : Rgb) (s : State) : (emit y x p s).sp = s.sp := rfl
@[simp] theorem emit_cmd (y x : Nat) (p : Rgb) (s : State) : (emit y x p s).cmd = s.cmd := rfl
@[simp] theorem emit_rawSize (y x : Nat) (p : Rgb) (s : State) : (emit y x p s).rawSize = s.rawSize := rfl
@[simp] theorem emit_rgbSize (y x : Nat) (p : Rgb) (s : State) : (emit y x p s).rgbSize = s.rgbSize := rfl
@[simp] theorem emit_raw (y x : Nat) (p : Rgb) (s : State) : (emit y x p s).raw = s.raw := rfl
@[simp] theorem emit_diag (y x : Nat) (p : Rgb) (s : State) : (emit y x p s).diag = s.diag := rfl
@[simp] theorem emit_port (y x : Nat) (p : Rgb) (s : State) : (emit y x p s).port = s.port := rfl
@[simp] theorem emit_rdata (y x : Nat) (p : Rgb) (s : State) : (emit y x p s).rdata = s.rdata := rfl

/-! ### `beginCommand` -/

@[simp] theorem beginCommand_status (w : Word) (s : State) : (beginCommand w s).status = s.status.accepted := rfl
@[simp] theorem beginCommand_ctrl (w : Word) (s : State) : (beginCommand w s).ctrl = s.ctrl := rfl
@[simp] theorem beginCommand_width (w : Word) (s : State) : (beginCommand w s).width = s.width := rfl
@[simp] theorem beginCommand_height (w : Word) (s : State) : (beginCommand w s).height = s.height := rfl
@[simp] theorem beginCommand_stride (w : Word) (s : State) : (beginCommand w s).stride = s.stride := rfl
@[simp] theorem beginCommand_rawLen (w : Word) (s : State) : (beginCommand w s).rawLen = s.rawLen := rfl
@[simp] theorem beginCommand_rgbLen (w : Word) (s : State) : (beginCommand w s).rgbLen = s.rgbLen := rfl
@[simp] theorem beginCommand_brightness (w : Word) (s : State) : (beginCommand w s).brightness = s.brightness := rfl
@[simp] theorem beginCommand_sharpness (w : Word) (s : State) : (beginCommand w s).sharpness = s.sharpness := rfl
@[simp] theorem beginCommand_sel8 (w : Word) (s : State) : (beginCommand w s).sel8 = s.sel8 := rfl
@[simp] theorem beginCommand_sel10 (w : Word) (s : State) : (beginCommand w s).sel10 = s.sel10 := rfl
@[simp] theorem beginCommand_warnCount (w : Word) (s : State) : (beginCommand w s).warnCount = s.warnCount := rfl
@[simp] theorem beginCommand_name0 (w : Word) (s : State) : (beginCommand w s).name0 = s.name0 := rfl
@[simp] theorem beginCommand_name1 (w : Word) (s : State) : (beginCommand w s).name1 = s.name1 := rfl
@[simp] theorem beginCommand_name2 (w : Word) (s : State) : (beginCommand w s).name2 = s.name2 := rfl
@[simp] theorem beginCommand_name3 (w : Word) (s : State) : (beginCommand w s).name3 = s.name3 := rfl
@[simp] theorem beginCommand_lname0 (w : Word) (s : State) : (beginCommand w s).lname0 = s.lname0 := rfl
@[simp] theorem beginCommand_lname1 (w : Word) (s : State) : (beginCommand w s).lname1 = s.lname1 := rfl
@[simp] theorem beginCommand_lname2 (w : Word) (s : State) : (beginCommand w s).lname2 = s.lname2 := rfl
@[simp] theorem beginCommand_lname3 (w : Word) (s : State) : (beginCommand w s).lname3 = s.lname3 := rfl
@[simp] theorem beginCommand_lflags (w : Word) (s : State) : (beginCommand w s).lflags = s.lflags := rfl
@[simp] theorem beginCommand_sp (w : Word) (s : State) : (beginCommand w s).sp = s.sp := rfl
@[simp] theorem beginCommand_cmd (w : Word) (s : State) : (beginCommand w s).cmd = w := rfl
@[simp] theorem beginCommand_rawSize (w : Word) (s : State) : (beginCommand w s).rawSize = s.rawSize := rfl
@[simp] theorem beginCommand_rgbSize (w : Word) (s : State) : (beginCommand w s).rgbSize = s.rgbSize := rfl
@[simp] theorem beginCommand_raw (w : Word) (s : State) : (beginCommand w s).raw = s.raw := rfl
@[simp] theorem beginCommand_rgb (w : Word) (s : State) : (beginCommand w s).rgb = s.rgb := rfl
@[simp] theorem beginCommand_diag (w : Word) (s : State) : (beginCommand w s).diag = s.diag := rfl
@[simp] theorem beginCommand_port (w : Word) (s : State) : (beginCommand w s).port = s.port := rfl
@[simp] theorem beginCommand_rdata (w : Word) (s : State) : (beginCommand w s).rdata = s.rdata := rfl

/-! ### `endCommand` -/

@[simp] theorem endCommand_status (b : Bool) (c : ResultCode) (s : State) :
    (endCommand b c s).status = s.status.ended c (b && decide (c = .ok) && decide (s.warnCount ≠ 0)) := rfl
@[simp] theorem endCommand_ctrl (b : Bool) (c : ResultCode) (s : State) : (endCommand b c s).ctrl = s.ctrl := rfl
@[simp] theorem endCommand_width (b : Bool) (c : ResultCode) (s : State) : (endCommand b c s).width = s.width := rfl
@[simp] theorem endCommand_height (b : Bool) (c : ResultCode) (s : State) :
    (endCommand b c s).height = s.height := rfl
@[simp] theorem endCommand_stride (b : Bool) (c : ResultCode) (s : State) :
    (endCommand b c s).stride = s.stride := rfl
@[simp] theorem endCommand_rawLen (b : Bool) (c : ResultCode) (s : State) :
    (endCommand b c s).rawLen = s.rawLen := rfl
@[simp] theorem endCommand_rgbLen (b : Bool) (c : ResultCode) (s : State) :
    (endCommand b c s).rgbLen = s.rgbLen := rfl
@[simp] theorem endCommand_brightness (b : Bool) (c : ResultCode) (s : State) :
    (endCommand b c s).brightness = s.brightness := rfl
@[simp] theorem endCommand_sharpness (b : Bool) (c : ResultCode) (s : State) :
    (endCommand b c s).sharpness = s.sharpness := rfl
@[simp] theorem endCommand_sel8 (b : Bool) (c : ResultCode) (s : State) : (endCommand b c s).sel8 = s.sel8 := rfl
@[simp] theorem endCommand_sel10 (b : Bool) (c : ResultCode) (s : State) : (endCommand b c s).sel10 = s.sel10 := rfl
@[simp] theorem endCommand_warnCount (b : Bool) (c : ResultCode) (s : State) :
    (endCommand b c s).warnCount = s.warnCount := rfl
@[simp] theorem endCommand_name0 (b : Bool) (c : ResultCode) (s : State) : (endCommand b c s).name0 = s.name0 := rfl
@[simp] theorem endCommand_name1 (b : Bool) (c : ResultCode) (s : State) : (endCommand b c s).name1 = s.name1 := rfl
@[simp] theorem endCommand_name2 (b : Bool) (c : ResultCode) (s : State) : (endCommand b c s).name2 = s.name2 := rfl
@[simp] theorem endCommand_name3 (b : Bool) (c : ResultCode) (s : State) : (endCommand b c s).name3 = s.name3 := rfl
@[simp] theorem endCommand_lname0 (b : Bool) (c : ResultCode) (s : State) :
    (endCommand b c s).lname0 = s.lname0 := rfl
@[simp] theorem endCommand_lname1 (b : Bool) (c : ResultCode) (s : State) :
    (endCommand b c s).lname1 = s.lname1 := rfl
@[simp] theorem endCommand_lname2 (b : Bool) (c : ResultCode) (s : State) :
    (endCommand b c s).lname2 = s.lname2 := rfl
@[simp] theorem endCommand_lname3 (b : Bool) (c : ResultCode) (s : State) :
    (endCommand b c s).lname3 = s.lname3 := rfl
@[simp] theorem endCommand_lflags (b : Bool) (c : ResultCode) (s : State) :
    (endCommand b c s).lflags = s.lflags := rfl
@[simp] theorem endCommand_sp (b : Bool) (c : ResultCode) (s : State) : (endCommand b c s).sp = ScanPtr.home := rfl
@[simp] theorem endCommand_cmd (b : Bool) (c : ResultCode) (s : State) : (endCommand b c s).cmd = 0 := rfl
@[simp] theorem endCommand_rawSize (b : Bool) (c : ResultCode) (s : State) :
    (endCommand b c s).rawSize = s.rawSize := rfl
@[simp] theorem endCommand_rgbSize (b : Bool) (c : ResultCode) (s : State) :
    (endCommand b c s).rgbSize = s.rgbSize := rfl
@[simp] theorem endCommand_raw (b : Bool) (c : ResultCode) (s : State) : (endCommand b c s).raw = s.raw := rfl
@[simp] theorem endCommand_rgb (b : Bool) (c : ResultCode) (s : State) : (endCommand b c s).rgb = s.rgb := rfl
@[simp] theorem endCommand_diag (b : Bool) (c : ResultCode) (s : State) : (endCommand b c s).diag = s.diag := rfl
@[simp] theorem endCommand_port (b : Bool) (c : ResultCode) (s : State) : (endCommand b c s).port = s.port := rfl
@[simp] theorem endCommand_rdata (b : Bool) (c : ResultCode) (s : State) : (endCommand b c s).rdata = s.rdata := rfl

/-! ### `selectEntry` -/

@[simp] theorem selectEntry_status (a : Alg) (s : State) : (selectEntry a s).status = s.status := rfl
@[simp] theorem selectEntry_ctrl (a : Alg) (s : State) : (selectEntry a s).ctrl = s.ctrl := rfl
@[simp] theorem selectEntry_width (a : Alg) (s : State) : (selectEntry a s).width = s.width := rfl
@[simp] theorem selectEntry_height (a : Alg) (s : State) : (selectEntry a s).height = s.height := rfl
@[simp] theorem selectEntry_stride (a : Alg) (s : State) : (selectEntry a s).stride = s.stride := rfl
@[simp] theorem selectEntry_rawLen (a : Alg) (s : State) : (selectEntry a s).rawLen = s.rawLen := rfl
@[simp] theorem selectEntry_rgbLen (a : Alg) (s : State) : (selectEntry a s).rgbLen = s.rgbLen := rfl
@[simp] theorem selectEntry_brightness (a : Alg) (s : State) : (selectEntry a s).brightness = s.brightness := rfl
@[simp] theorem selectEntry_sharpness (a : Alg) (s : State) : (selectEntry a s).sharpness = s.sharpness := rfl
@[simp] theorem selectEntry_sel8 (a : Alg) (s : State) : (selectEntry a s).sel8 = Alg.id a := rfl
@[simp] theorem selectEntry_sel10 (a : Alg) (s : State) :
    (selectEntry a s).sel10 = if algHas10 a then Alg.id a else noKernelId := rfl
@[simp] theorem selectEntry_warnCount (a : Alg) (s : State) : (selectEntry a s).warnCount = s.warnCount := rfl
@[simp] theorem selectEntry_name0 (a : Alg) (s : State) : (selectEntry a s).name0 = s.name0 := rfl
@[simp] theorem selectEntry_name1 (a : Alg) (s : State) : (selectEntry a s).name1 = s.name1 := rfl
@[simp] theorem selectEntry_name2 (a : Alg) (s : State) : (selectEntry a s).name2 = s.name2 := rfl
@[simp] theorem selectEntry_name3 (a : Alg) (s : State) : (selectEntry a s).name3 = s.name3 := rfl
@[simp] theorem selectEntry_lname0 (a : Alg) (s : State) : (selectEntry a s).lname0 = s.lname0 := rfl
@[simp] theorem selectEntry_lname1 (a : Alg) (s : State) : (selectEntry a s).lname1 = s.lname1 := rfl
@[simp] theorem selectEntry_lname2 (a : Alg) (s : State) : (selectEntry a s).lname2 = s.lname2 := rfl
@[simp] theorem selectEntry_lname3 (a : Alg) (s : State) : (selectEntry a s).lname3 = s.lname3 := rfl
@[simp] theorem selectEntry_lflags (a : Alg) (s : State) : (selectEntry a s).lflags = s.lflags := rfl
@[simp] theorem selectEntry_sp (a : Alg) (s : State) : (selectEntry a s).sp = s.sp := rfl
@[simp] theorem selectEntry_cmd (a : Alg) (s : State) : (selectEntry a s).cmd = s.cmd := rfl
@[simp] theorem selectEntry_rawSize (a : Alg) (s : State) : (selectEntry a s).rawSize = s.rawSize := rfl
@[simp] theorem selectEntry_rgbSize (a : Alg) (s : State) : (selectEntry a s).rgbSize = s.rgbSize := rfl
@[simp] theorem selectEntry_raw (a : Alg) (s : State) : (selectEntry a s).raw = s.raw := rfl
@[simp] theorem selectEntry_rgb (a : Alg) (s : State) : (selectEntry a s).rgb = s.rgb := rfl
@[simp] theorem selectEntry_diag (a : Alg) (s : State) : (selectEntry a s).diag = s.diag := rfl
@[simp] theorem selectEntry_port (a : Alg) (s : State) : (selectEntry a s).port = s.port := rfl
@[simp] theorem selectEntry_rdata (a : Alg) (s : State) : (selectEntry a s).rdata = s.rdata := rfl

/-! ### `listEntry` -/

@[simp] theorem listEntry_status (i : BitVec 8) (a : Alg) (s : State) : (listEntry i a s).status = s.status := rfl
@[simp] theorem listEntry_ctrl (i : BitVec 8) (a : Alg) (s : State) : (listEntry i a s).ctrl = s.ctrl := rfl
@[simp] theorem listEntry_width (i : BitVec 8) (a : Alg) (s : State) : (listEntry i a s).width = s.width := rfl
@[simp] theorem listEntry_height (i : BitVec 8) (a : Alg) (s : State) : (listEntry i a s).height = s.height := rfl
@[simp] theorem listEntry_stride (i : BitVec 8) (a : Alg) (s : State) : (listEntry i a s).stride = s.stride := rfl
@[simp] theorem listEntry_rawLen (i : BitVec 8) (a : Alg) (s : State) : (listEntry i a s).rawLen = s.rawLen := rfl
@[simp] theorem listEntry_rgbLen (i : BitVec 8) (a : Alg) (s : State) : (listEntry i a s).rgbLen = s.rgbLen := rfl
@[simp] theorem listEntry_brightness (i : BitVec 8) (a : Alg) (s : State) :
    (listEntry i a s).brightness = s.brightness := rfl
@[simp] theorem listEntry_sharpness (i : BitVec 8) (a : Alg) (s : State) :
    (listEntry i a s).sharpness = s.sharpness := rfl
@[simp] theorem listEntry_sel8 (i : BitVec 8) (a : Alg) (s : State) : (listEntry i a s).sel8 = s.sel8 := rfl
@[simp] theorem listEntry_sel10 (i : BitVec 8) (a : Alg) (s : State) : (listEntry i a s).sel10 = s.sel10 := rfl
@[simp] theorem listEntry_warnCount (i : BitVec 8) (a : Alg) (s : State) :
    (listEntry i a s).warnCount = s.warnCount := rfl
@[simp] theorem listEntry_name0 (i : BitVec 8) (a : Alg) (s : State) : (listEntry i a s).name0 = s.name0 := rfl
@[simp] theorem listEntry_name1 (i : BitVec 8) (a : Alg) (s : State) : (listEntry i a s).name1 = s.name1 := rfl
@[simp] theorem listEntry_name2 (i : BitVec 8) (a : Alg) (s : State) : (listEntry i a s).name2 = s.name2 := rfl
@[simp] theorem listEntry_name3 (i : BitVec 8) (a : Alg) (s : State) : (listEntry i a s).name3 = s.name3 := rfl
@[simp] theorem listEntry_lname0 (i : BitVec 8) (a : Alg) (s : State) :
    (listEntry i a s).lname0 = packedWord (padName (algName a)) 0 := rfl
@[simp] theorem listEntry_lname1 (i : BitVec 8) (a : Alg) (s : State) :
    (listEntry i a s).lname1 = packedWord (padName (algName a)) 1 := rfl
@[simp] theorem listEntry_lname2 (i : BitVec 8) (a : Alg) (s : State) :
    (listEntry i a s).lname2 = packedWord (padName (algName a)) 2 := rfl
@[simp] theorem listEntry_lname3 (i : BitVec 8) (a : Alg) (s : State) :
    (listEntry i a s).lname3 = packedWord (padName (algName a)) 3 := rfl
@[simp] theorem listEntry_lflags (i : BitVec 8) (a : Alg) (s : State) :
    (listEntry i a s).lflags = listFlags i a := rfl
@[simp] theorem listEntry_sp (i : BitVec 8) (a : Alg) (s : State) : (listEntry i a s).sp = s.sp := rfl
@[simp] theorem listEntry_cmd (i : BitVec 8) (a : Alg) (s : State) : (listEntry i a s).cmd = s.cmd := rfl
@[simp] theorem listEntry_rawSize (i : BitVec 8) (a : Alg) (s : State) : (listEntry i a s).rawSize = s.rawSize := rfl
@[simp] theorem listEntry_rgbSize (i : BitVec 8) (a : Alg) (s : State) : (listEntry i a s).rgbSize = s.rgbSize := rfl
@[simp] theorem listEntry_raw (i : BitVec 8) (a : Alg) (s : State) : (listEntry i a s).raw = s.raw := rfl
@[simp] theorem listEntry_rgb (i : BitVec 8) (a : Alg) (s : State) : (listEntry i a s).rgb = s.rgb := rfl
@[simp] theorem listEntry_diag (i : BitVec 8) (a : Alg) (s : State) : (listEntry i a s).diag = s.diag := rfl
@[simp] theorem listEntry_port (i : BitVec 8) (a : Alg) (s : State) : (listEntry i a s).port = s.port := rfl
@[simp] theorem listEntry_rdata (i : BitVec 8) (a : Alg) (s : State) : (listEntry i a s).rdata = s.rdata := rfl

/-! ### `applyRst` -/

@[simp] theorem applyRst_status (s : State) : (applyRst s).status = State.reset.status := rfl
@[simp] theorem applyRst_ctrl (s : State) : (applyRst s).ctrl = State.reset.ctrl := rfl
@[simp] theorem applyRst_width (s : State) : (applyRst s).width = State.reset.width := rfl
@[simp] theorem applyRst_height (s : State) : (applyRst s).height = State.reset.height := rfl
@[simp] theorem applyRst_stride (s : State) : (applyRst s).stride = State.reset.stride := rfl
@[simp] theorem applyRst_rawLen (s : State) : (applyRst s).rawLen = State.reset.rawLen := rfl
@[simp] theorem applyRst_rgbLen (s : State) : (applyRst s).rgbLen = State.reset.rgbLen := rfl
@[simp] theorem applyRst_brightness (s : State) : (applyRst s).brightness = State.reset.brightness := rfl
@[simp] theorem applyRst_sharpness (s : State) : (applyRst s).sharpness = State.reset.sharpness := rfl
@[simp] theorem applyRst_sel8 (s : State) : (applyRst s).sel8 = State.reset.sel8 := rfl
@[simp] theorem applyRst_sel10 (s : State) : (applyRst s).sel10 = State.reset.sel10 := rfl
@[simp] theorem applyRst_warnCount (s : State) : (applyRst s).warnCount = State.reset.warnCount := rfl
@[simp] theorem applyRst_name0 (s : State) : (applyRst s).name0 = State.reset.name0 := rfl
@[simp] theorem applyRst_name1 (s : State) : (applyRst s).name1 = State.reset.name1 := rfl
@[simp] theorem applyRst_name2 (s : State) : (applyRst s).name2 = State.reset.name2 := rfl
@[simp] theorem applyRst_name3 (s : State) : (applyRst s).name3 = State.reset.name3 := rfl
@[simp] theorem applyRst_lname0 (s : State) : (applyRst s).lname0 = State.reset.lname0 := rfl
@[simp] theorem applyRst_lname1 (s : State) : (applyRst s).lname1 = State.reset.lname1 := rfl
@[simp] theorem applyRst_lname2 (s : State) : (applyRst s).lname2 = State.reset.lname2 := rfl
@[simp] theorem applyRst_lname3 (s : State) : (applyRst s).lname3 = State.reset.lname3 := rfl
@[simp] theorem applyRst_lflags (s : State) : (applyRst s).lflags = State.reset.lflags := rfl
@[simp] theorem applyRst_sp (s : State) : (applyRst s).sp = State.reset.sp := rfl
@[simp] theorem applyRst_cmd (s : State) : (applyRst s).cmd = State.reset.cmd := rfl
@[simp] theorem applyRst_rawSize (s : State) : (applyRst s).rawSize = s.rawSize := rfl
@[simp] theorem applyRst_rgbSize (s : State) : (applyRst s).rgbSize = s.rgbSize := rfl
@[simp] theorem applyRst_raw (s : State) : (applyRst s).raw = s.raw := rfl
@[simp] theorem applyRst_rgb (s : State) : (applyRst s).rgb = s.rgb := rfl
@[simp] theorem applyRst_diag (s : State) : (applyRst s).diag = State.reset.diag := rfl
@[simp] theorem applyRst_port (s : State) : (applyRst s).port = s.port := rfl
@[simp] theorem applyRst_rdata (s : State) : (applyRst s).rdata = State.reset.rdata := rfl

end Sys2Proof.Machine
end

