-- ==== Sys2Proof/Laws/Memory.lean ====
section
/-! SUPPORT. The laws of the byte memories: a read after a write, and the two invariants every write keeps: addresses
strictly rising, and every address below the size. -/

namespace Sys2Proof.Machine

/-- A read at the written address gives the written byte. -/
@[simp] theorem memFind_memStore_same (m : Memory) (a : Nat) (v : Byte) : memFind (memStore m a v) a = some v := by
  induction m with
  | nil => simp [memStore, memFind]
  | cons c rest ih =>
    obtain ⟨k, b⟩ := c
    unfold memStore
    split
    · simp [memFind]
    · split
      · simp [memFind]
      · have : k ≠ a := by omega
        simp [memFind, this, ih]

/-- A write leaves every other address alone. -/
theorem memFind_memStore_other (m : Memory) (a b : Nat) (v : Byte) (h : b ≠ a) :
    memFind (memStore m a v) b = memFind m b := by
  induction m with
  | nil => simp [memStore, memFind, Ne.symm h]
  | cons c rest ih =>
    obtain ⟨k, w⟩ := c
    unfold memStore
    split
    · simp [memFind, Ne.symm h]
    · split
      · next h2 => subst h2; simp [memFind, Ne.symm h]
      · simp [memFind, ih]

/-- The listed addresses after a write are the old ones and the written one. -/
theorem fst_of_mem_memStore {m : Memory} {a : Nat} {v : Byte} {c : Host.Cell} (h : c ∈ memStore m a v) :
    c.1 = a ∨ c ∈ m := by
  induction m with
  | nil => simp only [memStore, List.mem_singleton] at h; exact .inl (by rw [h])
  | cons d rest ih =>
    obtain ⟨k, w⟩ := d
    unfold memStore at h
    split at h
    · rcases List.mem_cons.1 h with h | h
      · exact .inl (by rw [h])
      · exact .inr h
    · split at h
      · rcases List.mem_cons.1 h with h | h
        · exact .inl (by rw [h])
        · exact .inr (List.mem_cons_of_mem _ h)
      · rcases List.mem_cons.1 h with h | h
        · exact .inr (by rw [h]; exact List.mem_cons_self)
        · rcases ih h with h | h
          · exact .inl h
          · exact .inr (List.mem_cons_of_mem _ h)

/-- A write keeps the canonical form. -/
theorem wf_memStore {m : Memory} (h : Memory.wf m) (a : Nat) (v : Byte) : Memory.wf (memStore m a v) := by
  induction m with
  | nil => simp [memStore, Memory.wf]
  | cons d rest ih =>
    obtain ⟨k, w⟩ := d
    obtain ⟨h1, h2⟩ := List.pairwise_cons.1 h
    unfold memStore
    split
    · next lt =>
      refine List.pairwise_cons.2 ⟨fun c hc => ?_, h⟩
      rcases List.mem_cons.1 hc with rfl | hc
      · exact lt
      · exact lt.trans (h1 c hc)
    · split
      · next eq => subst eq; exact List.pairwise_cons.2 ⟨h1, h2⟩
      · next lt ne =>
        refine List.pairwise_cons.2 ⟨fun c hc => ?_, ih h2⟩
        rcases fst_of_mem_memStore hc with e | hc
        · simp only; omega
        · exact h1 c hc

/-- A write below the size keeps every address below the size. -/
theorem within_memStore {m : Memory} {size : Nat} (h : ∀ c ∈ m, c.1 < size) {a : Nat} (ha : a < size) (v : Byte) :
    ∀ c ∈ memStore m a v, c.1 < size := by
  intro c hc
  rcases fst_of_mem_memStore hc with e | hc
  · omega
  · exact h c hc

/-! ### Reads of the two memories after the writes -/

@[simp] theorem readRaw_writeRaw_same (a : Nat) (v : Byte) (s : State) : readRaw (writeRaw a v s) a = v := by
  simp [readRaw]

theorem readRaw_writeRaw_other {a b : Nat} (v : Byte) (s : State) (h : b ≠ a) :
    readRaw (writeRaw a v s) b = readRaw s b := by
  simp [readRaw, memFind_memStore_other _ _ _ _ h]

@[simp] theorem readRgb_writeRgb_same (a : Nat) (v : Byte) (s : State) : readRgb (writeRgb a v s) a = v := by
  simp [readRgb]

theorem readRgb_writeRgb_other {a b : Nat} (v : Byte) (s : State) (h : b ≠ a) :
    readRgb (writeRgb a v s) b = readRgb s b := by
  simp [readRgb, memFind_memStore_other _ _ _ _ h]

/-- A byte read depends on `RAW` alone. -/
theorem readRaw_congr {s t : State} (h : s.raw = t.raw) (a : Nat) : readRaw s a = readRaw t a := by
  simp [readRaw, h]

theorem readRgb_congr {s t : State} (h : s.rgb = t.rgb) (a : Nat) : readRgb s a = readRgb t a := by
  simp [readRgb, h]

/-! ### `emit` -/

/-- The bytes of an emitted pixel, and of every other address (R232). -/
theorem readRgb_emit (y x : Nat) (p : Rgb) (s : State) (b : Nat) :
    readRgb (emit y x p s) b =
      if b = pixelAddr s.width.toNat y x then (storedOrder (swapRb s) p).1
      else if b = pixelAddr s.width.toNat y x + 1 then (storedOrder (swapRb s) p).2.1
      else if b = pixelAddr s.width.toNat y x + 2 then (storedOrder (swapRb s) p).2.2
      else readRgb s b := by
  unfold emit
  generalize pixelAddr s.width.toNat y x = a
  by_cases h2 : b = a + 2
  · subst h2; simp
  · simp only [readRgb_writeRgb_other _ _ h2]
    by_cases h1 : b = a + 1
    · subst h1; simp
    · simp only [readRgb_writeRgb_other _ _ h1]
      by_cases h0 : b = a
      · subst h0; simp
      · simp only [readRgb_writeRgb_other _ _ h0]; simp [h0, h1, h2]

/-- `emit` keeps the form of `RGB`. -/
theorem wf_emit {s : State} (h : Memory.wf s.rgb) (y x : Nat) (p : Rgb) : Memory.wf (emit y x p s).rgb :=
  wf_memStore (wf_memStore (wf_memStore h _ _) _ _) _ _

/-- `emit` stays below a size above its three bytes (R68). -/
theorem within_emit {s : State} {size : Nat} (h : ∀ c ∈ s.rgb, c.1 < size) {y x : Nat}
    (ha : pixelAddr s.width.toNat y x + 2 < size) (p : Rgb) : ∀ c ∈ (emit y x p s).rgb, c.1 < size :=
  within_memStore (within_memStore (within_memStore h (by omega) _) (by omega) _) (by omega) _

end Sys2Proof.Machine
end

