-- ==== Sys2Proof/Laws/Paint.lean ====
section
/-! SUPPORT. What the raster pass does (R236, R238): it writes each pixel once, touches no other byte of `RGB`, and
changes nothing but `RGB` and `SP`. -/

namespace Sys2Proof.Machine

/-- The address of pixel number `k` in raster order is `3*k` (R67). -/
theorem pixelAddr_raster (w k : Nat) : pixelAddr w (k / w) (k % w) = 3 * k := by
  rw [pixelAddr, Nat.mul_comm (k / w) w, Nat.div_add_mod]

/-- A pass changes `RGB` and `SP` only. -/
theorem paint_frame (ph : Phase) (w : Nat) (pixel : Nat → Nat → Rgb) (n k : Nat) (s : State) :
    paint ph w pixel n k s =
      { s with rgb := (paint ph w pixel n k s).rgb, sp := (paint ph w pixel n k s).sp } := by
  induction n generalizing k s with
  | zero => rfl
  | succ n ih => rw [paint, ih]; rfl

@[simp] theorem paint_width (ph : Phase) (w : Nat) (pixel : Nat → Nat → Rgb) (n k : Nat) (s : State) :
    (paint ph w pixel n k s).width = s.width := by rw [paint_frame]

@[simp] theorem paint_ctrl (ph : Phase) (w : Nat) (pixel : Nat → Nat → Rgb) (n k : Nat) (s : State) :
    (paint ph w pixel n k s).ctrl = s.ctrl := by rw [paint_frame]

@[simp] theorem paint_raw (ph : Phase) (w : Nat) (pixel : Nat → Nat → Rgb) (n k : Nat) (s : State) :
    (paint ph w pixel n k s).raw = s.raw := by rw [paint_frame]

@[simp] theorem paint_warnCount (ph : Phase) (w : Nat) (pixel : Nat → Nat → Rgb) (n k : Nat) (s : State) :
    (paint ph w pixel n k s).warnCount = s.warnCount := by rw [paint_frame]

@[simp] theorem paint_status (ph : Phase) (w : Nat) (pixel : Nat → Nat → Rgb) (n k : Nat) (s : State) :
    (paint ph w pixel n k s).status = s.status := by rw [paint_frame]

/-- Every byte of `RGB` after a pass over the pixels `k .. k+n-1`: the channel of its pixel, or what it held before. -/
theorem readRgb_paint (ph : Phase) (w : Nat) (pixel : Nat → Nat → Rgb) (n k : Nat) (s : State)
    (hw : s.width.toNat = w) (b : Nat) :
    readRgb (paint ph w pixel n k s) b =
      if 3 * k ≤ b ∧ b < 3 * (k + n) then
        let q := storedOrder (swapRb s) (pixel (b / 3 / w) (b / 3 % w))
        if b % 3 = 0 then q.1 else if b % 3 = 1 then q.2.1 else q.2.2
      else readRgb s b := by
  induction n generalizing k s with
  | zero => simp only [paint]; rw [if_neg (by omega)]
  | succ n ih =>
    rw [paint, ih _ _ (by simpa using hw)]
    have hs : ∀ y x p, swapRb (emit y x p (setSp ph (k / w) (k % w) s)) = swapRb s := fun _ _ _ => rfl
    have hr : readRgb (setSp ph (k / w) (k % w) s) b = readRgb s b := rfl
    have ha : pixelAddr (setSp ph (k / w) (k % w) s).width.toNat (k / w) (k % w) = 3 * k := by
      rw [setSp_width, hw, pixelAddr_raster]
    rw [hs, readRgb_emit, ha, hr]
    have hsw : swapRb (setSp ph (k / w) (k % w) s) = swapRb s := rfl
    rw [hsw]
    by_cases h : 3 * (k + 1) ≤ b ∧ b < 3 * (k + 1 + n)
    · rw [if_pos h, if_pos (show 3 * k ≤ b ∧ b < 3 * (k + (n + 1)) by omega)]
    · rw [if_neg h]
      by_cases h' : 3 * k ≤ b ∧ b < 3 * (k + (n + 1))
      · rw [if_pos h']
        have hk : b / 3 = k := by omega
        rw [hk]
        by_cases h0 : b = 3 * k
        · rw [if_pos h0, if_pos (by omega)]
        · by_cases h1 : b = 3 * k + 1
          · rw [if_neg h0, if_pos h1, if_neg (by omega), if_pos (by omega)]
          · rw [if_neg h0, if_neg h1, if_pos (by omega), if_neg (by omega), if_neg (by omega)]
      · rw [if_neg h', if_neg (by omega), if_neg (by omega), if_neg (by omega)]

/-- The index of pixel `(y, x)` in raster order lies in the plane. -/
theorem raster_lt {w h y x : Nat} (hy : y < h) (hx : x < w) : y * w + x < w * h := by
  have : (y + 1) * w ≤ h * w := Nat.mul_le_mul_right w hy
  rw [Nat.add_mul, Nat.one_mul] at this
  rw [Nat.mul_comm w h]; omega

theorem raster_div {w y x : Nat} (hx : x < w) : (y * w + x) / w = y := by
  rw [Nat.mul_comm y w, Nat.mul_add_div (by omega), Nat.div_eq_of_lt hx, Nat.add_zero]

theorem raster_mod {w y x : Nat} (hx : x < w) : (y * w + x) % w = x := by
  rw [Nat.mul_comm y w, Nat.mul_add_mod, Nat.mod_eq_of_lt hx]

/-- Byte `j` of output pixel `(y, x)` after a whole pass (R67, R232, R238). -/
theorem readRgb_paint_pixel (ph : Phase) (pixel : Nat → Nat → Rgb) (s : State) {y x : Nat} (hy : y < s.height.toNat)
    (hx : x < s.width.toNat) :
    let t := paint ph s.width.toNat pixel (pixelCount s) 0 s
    let a := pixelAddr s.width.toNat y x
    let q := storedOrder (swapRb s) (pixel y x)
    readRgb t a = q.1 ∧ readRgb t (a + 1) = q.2.1 ∧ readRgb t (a + 2) = q.2.2 := by
  have hl := raster_lt hy hx
  have key : ∀ j, j < 3 → ((3 * (y * s.width.toNat + x) + j) / 3 = y * s.width.toNat + x ∧
      (3 * (y * s.width.toNat + x) + j) % 3 = j ∧
      3 * 0 ≤ 3 * (y * s.width.toNat + x) + j ∧
      3 * (y * s.width.toNat + x) + j < 3 * (0 + pixelCount s)) := by
    intro j hj; unfold pixelCount; omega
  refine ⟨?_, ?_, ?_⟩
  · obtain ⟨h1, h2, h3, h4⟩ := key 0 (by omega)
    rw [readRgb_paint _ _ _ _ _ _ rfl, pixelAddr]
    rw [Nat.add_zero] at h1 h2 h3 h4
    rw [if_pos ⟨h3, h4⟩]
    simp only [h1, h2, raster_div hx, raster_mod hx, if_true]
  · obtain ⟨h1, h2, h3, h4⟩ := key 1 (by omega)
    rw [readRgb_paint _ _ _ _ _ _ rfl, pixelAddr, if_pos ⟨h3, h4⟩]
    simp only [h1, h2, raster_div hx, raster_mod hx]
    rw [if_neg (by omega), if_pos trivial]
  · obtain ⟨h1, h2, h3, h4⟩ := key 2 (by omega)
    rw [readRgb_paint _ _ _ _ _ _ rfl, pixelAddr, if_pos ⟨h3, h4⟩]
    simp only [h1, h2, raster_div hx, raster_mod hx]
    rw [if_neg (by omega), if_neg (by omega)]

/-- Bytes beyond the output keep their values (R238). -/
theorem readRgb_paint_beyond (ph : Phase) (pixel : Nat → Nat → Rgb) (s : State) {b : Nat}
    (hb : outputBytes s ≤ b) : readRgb (paint ph s.width.toNat pixel (pixelCount s) 0 s) b = readRgb s b := by
  rw [readRgb_paint _ _ _ _ _ _ rfl, if_neg]
  unfold outputBytes dstNeed at hb
  unfold pixelCount
  rw [Nat.mul_assoc] at hb
  omega

/-- A pass keeps the form of `RGB`. -/
theorem wf_paint (ph : Phase) (w : Nat) (pixel : Nat → Nat → Rgb) (n k : Nat) (s : State) (h : Memory.wf s.rgb) :
    Memory.wf (paint ph w pixel n k s).rgb := by
  induction n generalizing k s with
  | zero => exact h
  | succ n ih => exact ih _ _ (wf_emit (s := setSp ph (k / w) (k % w) s) h _ _ _)

/-- A pass over pixels whose bytes lie below a size stays below it (R68). -/
theorem within_paint (ph : Phase) (w : Nat) (pixel : Nat → Nat → Rgb) (n k size : Nat) (s : State)
    (hw : s.width.toNat = w) (hn : 3 * (k + n) ≤ size) (h : ∀ c ∈ s.rgb, c.1 < size) :
    ∀ c ∈ (paint ph w pixel n k s).rgb, c.1 < size := by
  induction n generalizing k s with
  | zero => exact h
  | succ n ih =>
    refine ih _ _ (by simpa using hw) (by omega) (within_emit (s := setSp ph (k / w) (k % w) s) h ?_ _)
    rw [setSp_width, hw, pixelAddr_raster]; omega

/-- The same for a kernel pass, which is a raster pass (R155). -/
theorem kernelPass_frame (pixel : State → Nat → Nat → Rgb) (s : State) :
    kernelPass pixel s = { s with rgb := (kernelPass pixel s).rgb, sp := (kernelPass pixel s).sp } :=
  paint_frame _ _ _ _ _ _

/-- A kernel row answers only when the plane and its output lie inside the memories, and then it is the pass. -/
theorem runKernelRow_next {d : Depth} {pixel : State → Nat → Nat → Rgb} {s t : State}
    (h : runKernelRow d pixel s = .next t) : planeFits (bayerClass d) s = true ∧ t = kernelPass pixel s := by
  unfold runKernelRow at h
  split at h
  · next hf => exact ⟨hf, by injection h with h; exact h.symm⟩
  · cases h

end Sys2Proof.Machine
end

