-- ==== Sys2Proof/Laws/Norm.lean ====
section
/-! SUPPORT. What the normalisation pass does (R303, R304): each sample of the plane becomes its normalised value once,
no byte outside the samples changes, and the range warnings are appended in raster order. -/

namespace Sys2Proof.Machine

/-- `P`, the container size of a depth (R300). -/
def containerBytes : Depth → Nat
  | .d8 => 1
  | .d10 => 2

theorem sampleAddr_eq (d : Depth) (s : State) (y x : Nat) :
    sampleAddr d s y x = y * s.stride.toNat + containerBytes d * x := by
  cases d <;> simp [sampleAddr, containerBytes]

/-- Two samples in raster order do not overlap when a row of samples fits in the stride (R226). -/
theorem sampleAddr_lt {d : Depth} {s : State} {w y x y' x' : Nat} (hs : containerBytes d * w ≤ s.stride.toNat)
    (hx : x < w) (h : y < y' ∨ (y = y' ∧ x < x')) :
    sampleAddr d s y x + containerBytes d ≤ sampleAddr d s y' x' := by
  rw [sampleAddr_eq, sampleAddr_eq]
  have hp : containerBytes d * x + containerBytes d ≤ containerBytes d * w := by
    have := Nat.mul_le_mul_left (containerBytes d) (Nat.succ_le_of_lt hx)
    rwa [Nat.mul_succ] at this
  rcases h with h | ⟨rfl, h⟩
  · have hy : y * s.stride.toNat + s.stride.toNat ≤ y' * s.stride.toNat := by
      have := Nat.mul_le_mul_right s.stride.toNat (Nat.succ_le_of_lt h)
      rwa [Nat.succ_mul] at this
    omega
  · have := Nat.mul_le_mul_left (containerBytes d) (Nat.succ_le_of_lt h)
    rw [Nat.mul_succ] at this
    omega

/-- Two different samples of the plane occupy disjoint bytes. -/
theorem sampleAddr_disjoint {d : Depth} {s : State} {w y x y' x' : Nat} (hs : containerBytes d * w ≤ s.stride.toNat)
    (hx : x < w) (hx' : x' < w) (h : ¬(y = y' ∧ x = x')) :
    sampleAddr d s y x + containerBytes d ≤ sampleAddr d s y' x' ∨
      sampleAddr d s y' x' + containerBytes d ≤ sampleAddr d s y x := by
  by_cases hlt : y < y' ∨ (y = y' ∧ x < x')
  · exact .inl (sampleAddr_lt hs hx hlt)
  · exact .inr (sampleAddr_lt hs hx' (by omega))

/-- A sample lies inside the first `(H-1)*S + P*W` bytes (R227, R68). -/
theorem sampleAddr_bound {d : Depth} {s : State} {w h y x : Nat} (hy : y < h) (hx : x < w) :
    sampleAddr d s y x + containerBytes d ≤ (h - 1) * s.stride.toNat + containerBytes d * w := by
  rw [sampleAddr_eq]
  have h1 : y * s.stride.toNat ≤ (h - 1) * s.stride.toNat := Nat.mul_le_mul_right _ (by omega)
  have h2 := Nat.mul_le_mul_left (containerBytes d) (Nat.succ_le_of_lt hx)
  rw [Nat.mul_succ] at h2
  omega

/-! ### One sample -/

theorem half_bytes (v : Half) : (v.extractLsb' 8 8 ++ v.extractLsb' 0 8 : BitVec 16) = v := by
  ext i hi
  simp only [BitVec.getElem_append, BitVec.getElem_extractLsb']
  split
  · simp [BitVec.getLsbD_eq_getElem hi]
  · simp only [show 8 + (i - 8) = i by omega, BitVec.getLsbD_eq_getElem hi]

@[simp] theorem readRaw16_writeRaw16_same (a : Nat) (v : Half) (s : State) : readRaw16 (writeRaw16 a v s) a = v := by
  unfold readRaw16 writeRaw16
  rw [readRaw_writeRaw_same, readRaw_writeRaw_other _ _ (by omega), readRaw_writeRaw_same]
  exact half_bytes v

/-- A stored sample reads back, when it fits its container. -/
theorem sample_writeSample_same (d : Depth) (y x v : Nat) (s : State) (h : v ≤ maxSample d) :
    sample d (writeSample d y x v s) y x = v := by
  cases d with
  | d8 =>
    change (readRaw (writeRaw (sampleAddr .d8 s y x) (BitVec.ofNat 8 v) s) (sampleAddr .d8 s y x)).toNat = v
    rw [readRaw_writeRaw_same, BitVec.toNat_ofNat]
    simp only [maxSample] at h; omega
  | d10 =>
    change (readRaw16 (writeRaw16 (sampleAddr .d10 s y x) (BitVec.ofNat 16 v) s) (sampleAddr .d10 s y x)).toNat = v
    rw [readRaw16_writeRaw16_same, BitVec.toNat_ofNat]
    simp only [maxSample] at h; omega

/-- Storing a sample changes its own bytes only. -/
theorem readRaw_writeSample_other (d : Depth) (y x v : Nat) (s : State) {b : Nat}
    (h : b < sampleAddr d s y x ∨ sampleAddr d s y x + containerBytes d ≤ b) :
    readRaw (writeSample d y x v s) b = readRaw s b := by
  cases d with
  | d8 =>
    simp only [containerBytes] at h
    exact readRaw_writeRaw_other _ _ (by omega)
  | d10 =>
    simp only [containerBytes] at h
    rw [writeSample, writeRaw16, readRaw_writeRaw_other _ _ (by omega), readRaw_writeRaw_other _ _ (by omega)]

/-- A sample depends on its own bytes only. -/
theorem sample_congr {d : Depth} {s t : State} (hst : s.stride = t.stride) {y x : Nat}
    (h : ∀ b, sampleAddr d s y x ≤ b → b < sampleAddr d s y x + containerBytes d → readRaw s b = readRaw t b) :
    sample d s y x = sample d t y x := by
  cases d with
  | d8 =>
    have ha : sampleAddr .d8 s y x = sampleAddr .d8 t y x := by simp [sampleAddr, hst]
    rw [sample, sample, ← ha, h _ (Nat.le_refl _) (by simp only [containerBytes]; omega)]
  | d10 =>
    have ha : sampleAddr .d10 s y x = sampleAddr .d10 t y x := by simp [sampleAddr, hst]
    rw [sample, sample, ← ha, readRaw16, readRaw16, h _ (Nat.le_refl _) (by simp only [containerBytes]; omega),
      h (sampleAddr .d10 s y x + 1) (by omega) (by simp only [containerBytes]; omega)]

/-- The range warning changes `DIAG` and `WARN_COUNT` only (R335). -/
theorem rangeWarning_frame (d : Depth) (y x : Nat) (s : State) :
    rangeWarning d y x s =
      { s with diag := (rangeWarning d y x s).diag, warnCount := (rangeWarning d y x s).warnCount } := by
  unfold rangeWarning; split <;> rfl

theorem writeSample_frame (d : Depth) (y x v : Nat) (s : State) :
    writeSample d y x v s = { s with raw := (writeSample d y x v s).raw } := by cases d <;> rfl

/-- Normalising a sample changes `RAW`, `DIAG` and `WARN_COUNT` only (R303). -/
theorem normalise_frame (d : Depth) (y x : Nat) (s : State) :
    normalise d y x s =
      { s with
        raw := (normalise d y x s).raw, diag := (normalise d y x s).diag
        warnCount := (normalise d y x s).warnCount } := by
  unfold normalise; rw [writeSample_frame, rangeWarning_frame]

theorem writeSample_raw_congr {d : Depth} {y x v : Nat} {s t : State} (hr : s.raw = t.raw)
    (hst : s.stride = t.stride) : (writeSample d y x v s).raw = (writeSample d y x v t).raw := by
  cases d <;> simp [writeSample, writeRaw16, sampleAddr, hr, hst]

theorem normalise_raw (d : Depth) (y x : Nat) (s : State) :
    (normalise d y x s).raw = (writeSample d y x (normalised d s y x) s).raw := by
  unfold normalise
  refine writeSample_raw_congr ?_ ?_ <;> rw [rangeWarning_frame]

@[simp] theorem normalise_stride (d : Depth) (y x : Nat) (s : State) : (normalise d y x s).stride = s.stride := by
  rw [normalise_frame]

theorem scaled_le (d : Depth) (b v : Nat) : scaled d b v ≤ maxSample d := Nat.min_le_left _ _

/-- The normalised sample (R303). -/
theorem sample_normalise_same (d : Depth) (y x : Nat) (s : State) :
    sample d (normalise d y x s) y x = normalised d s y x := by
  rw [← sample_writeSample_same d y x (normalised d s y x) s (scaled_le _ _ _)]
  refine sample_congr ?_ fun b _ _ => readRaw_congr (normalise_raw d y x s) b
  rw [normalise_stride, writeSample_frame]

theorem readRaw_normalise_other (d : Depth) (y x : Nat) (s : State) {b : Nat}
    (h : b < sampleAddr d s y x ∨ sampleAddr d s y x + containerBytes d ≤ b) :
    readRaw (normalise d y x s) b = readRaw s b := by
  rw [readRaw_congr (normalise_raw d y x s)]
  exact readRaw_writeSample_other d y x _ s h

/-- Normalising one sample leaves every other sample of the plane alone. -/
theorem sample_normalise_other {d : Depth} {s : State} {w y x y' x' : Nat}
    (hs : containerBytes d * w ≤ s.stride.toNat) (hx : x < w) (hx' : x' < w) (h : ¬(y = y' ∧ x = x')) :
    sample d (normalise d y x s) y' x' = sample d s y' x' := by
  refine sample_congr (normalise_stride ..) fun b h1 h2 => readRaw_normalise_other d y x s ?_
  have ha : sampleAddr d (normalise d y x s) y' x' = sampleAddr d s y' x' := by
    rw [sampleAddr_eq, sampleAddr_eq, normalise_stride]
  rw [ha] at h1 h2
  rcases sampleAddr_disjoint hs hx hx' h with h | h <;> omega

/-! ### The pass -/

/-- The range warning due for a sample, as the log holds it (R304, R334). -/
def rangeEntry (d : Depth) (s : State) (y x : Nat) : Option DiagEntry :=
  if outOfRange d (shiftedSample d s y x) then
    some ⟨.range, BitVec.ofNat 32 x, BitVec.ofNat 32 y, BitVec.ofNat 16 (shiftedSample d s y x)⟩
  else none

/-- The range warnings of the samples `k .. k+n-1` in raster order (R304). -/
def rangeLog (d : Depth) (s : State) (w k n : Nat) : List DiagEntry :=
  (List.range' k n).filterMap fun j => rangeEntry d s (j / w) (j % w)

theorem rangeWarning_diag (d : Depth) (y x : Nat) (s : State) :
    (rangeWarning d y x s).diag = s.diag ++ (rangeEntry d s y x).toList := by
  unfold rangeWarning rangeEntry; split <;> simp

theorem rangeWarning_warnCount (d : Depth) (y x : Nat) (s : State) :
    (rangeWarning d y x s).warnCount = s.warnCount + BitVec.ofNat 32 (rangeEntry d s y x).toList.length := by
  unfold rangeWarning rangeEntry; split <;> simp

theorem normalise_diag (d : Depth) (y x : Nat) (s : State) :
    (normalise d y x s).diag = s.diag ++ (rangeEntry d s y x).toList := by
  unfold normalise; rw [writeSample_frame]; exact rangeWarning_diag d y x s

theorem normalise_warnCount (d : Depth) (y x : Nat) (s : State) :
    (normalise d y x s).warnCount = s.warnCount + BitVec.ofNat 32 (rangeEntry d s y x).toList.length := by
  unfold normalise; rw [writeSample_frame]; exact rangeWarning_warnCount d y x s

/-- The pass changes `RAW`, `SP`, `DIAG` and `WARN_COUNT` only (R303). -/
theorem normPass_frame (d : Depth) (w n k : Nat) (s : State) :
    normPass d w n k s =
      { s with
        raw := (normPass d w n k s).raw, sp := (normPass d w n k s).sp
        diag := (normPass d w n k s).diag, warnCount := (normPass d w n k s).warnCount } := by
  induction n generalizing k s with
  | zero => rfl
  | succ n ih => rw [normPass, ih, normalise_frame]; rfl

@[simp] theorem normPass_stride (d : Depth) (w n k : Nat) (s : State) : (normPass d w n k s).stride = s.stride := by
  rw [normPass_frame]

@[simp] theorem normPass_rgb (d : Depth) (w n k : Nat) (s : State) : (normPass d w n k s).rgb = s.rgb := by
  rw [normPass_frame]

/-- The normalised value depends on the sample, `BRIGHTNESS` and `CTRL` (R303). -/
theorem shiftedSample_congr {d : Depth} {s t : State} (hc : s.ctrl = t.ctrl) {y x : Nat}
    (h : sample d s y x = sample d t y x) : shiftedSample d s y x = shiftedSample d t y x := by
  have : precisionShift d s = precisionShift d t := by cases d <;> simp [precisionShift, highBits, hc]
  rw [shiftedSample, shiftedSample, this, h]

theorem normalised_congr {d : Depth} {s t : State} (hc : s.ctrl = t.ctrl) (hb : s.brightness = t.brightness)
    {y x : Nat} (h : sample d s y x = sample d t y x) : normalised d s y x = normalised d t y x := by
  rw [normalised, normalised, hb, shiftedSample_congr hc h]

/-- Pixels with different raster indices are different. -/
theorem raster_ne {w k j : Nat} (h : k ≠ j) : ¬(k / w = j / w ∧ k % w = j % w) := by
  rintro ⟨h1, h2⟩
  exact h (by rw [← Nat.div_add_mod k w, ← Nat.div_add_mod j w, h1, h2])

/-- Every sample of the plane after the pass over the samples `k .. k+n-1`: normalised once, or as it was. -/
theorem sample_normPass {d : Depth} {w : Nat} (hw : 0 < w) (n k : Nat) (s : State)
    (hs : containerBytes d * w ≤ s.stride.toNat) (j : Nat) :
    sample d (normPass d w n k s) (j / w) (j % w) =
      if k ≤ j ∧ j < k + n then normalised d s (j / w) (j % w) else sample d s (j / w) (j % w) := by
  induction n generalizing k s with
  | zero => simp only [normPass]; rw [if_neg (by omega)]
  | succ n ih =>
    rw [normPass, ih _ _ (by rw [normalise_stride]; exact hs)]
    have hm : k % w < w := Nat.mod_lt _ hw
    have hj : j % w < w := Nat.mod_lt _ hw
    have hs' : containerBytes d * w ≤ (setSp .norm (k / w) (k % w) s).stride.toNat := hs
    by_cases hkj : k = j
    · subst hkj
      rw [if_neg (by omega), if_pos (by omega), sample_normalise_same]
      exact normalised_congr rfl rfl (sample_congr rfl fun _ _ _ => rfl)
    · have ho : sample d (normalise d (k / w) (k % w) (setSp .norm (k / w) (k % w) s)) (j / w) (j % w) =
          sample d s (j / w) (j % w) :=
        (sample_normalise_other hs' hm hj (raster_ne hkj)).trans (sample_congr rfl fun _ _ _ => rfl)
      by_cases h : k + 1 ≤ j ∧ j < k + 1 + n
      · rw [if_pos h, if_pos (by omega)]
        refine normalised_congr ?_ ?_ ho <;> rw [normalise_frame] <;> rfl
      · rw [if_neg h, if_neg (by omega), ho]

/-- A byte outside every sample of the pass keeps its value. -/
theorem readRaw_normPass_outside {d : Depth} {w : Nat} (n k : Nat) (s : State) {b : Nat}
    (h : ∀ j, k ≤ j → j < k + n →
      b < sampleAddr d s (j / w) (j % w) ∨ sampleAddr d s (j / w) (j % w) + containerBytes d ≤ b) :
    readRaw (normPass d w n k s) b = readRaw s b := by
  induction n generalizing k s with
  | zero => rfl
  | succ n ih =>
    rw [normPass, ih]
    · have := h k (Nat.le_refl _) (by omega)
      exact readRaw_normalise_other d _ _ (setSp .norm (k / w) (k % w) s) this
    · intro j h1 h2
      have ha : sampleAddr d (normalise d (k / w) (k % w) (setSp .norm (k / w) (k % w) s)) (j / w) (j % w) =
          sampleAddr d s (j / w) (j % w) := by rw [sampleAddr_eq, sampleAddr_eq, normalise_stride]; rfl
      rw [ha]; exact h j (by omega) (by omega)

/-- The log after the pass: the range warnings of its samples, in raster order, each judged on the sample as it stood
before the pass (R304). -/
theorem normPass_log {d : Depth} {w : Nat} (hw : 0 < w) (n k : Nat) (s : State)
    (hs : containerBytes d * w ≤ s.stride.toNat) :
    (normPass d w n k s).diag = s.diag ++ rangeLog d s w k n ∧
      (normPass d w n k s).warnCount = s.warnCount + BitVec.ofNat 32 (rangeLog d s w k n).length := by
  induction n generalizing k s with
  | zero => simp [normPass, rangeLog]
  | succ n ih =>
    have hm : k % w < w := Nat.mod_lt _ hw
    have hs' : containerBytes d * w ≤ (setSp .norm (k / w) (k % w) s).stride.toNat := hs
    have hlog : rangeLog d (normalise d (k / w) (k % w) (setSp .norm (k / w) (k % w) s)) w (k + 1) n =
        rangeLog d s w (k + 1) n := by
      unfold rangeLog
      refine List.filterMap_congr fun j hj => ?_
      have hkj : k ≠ j := by have := (List.mem_range'_1.1 hj).1; omega
      have ho : sample d (normalise d (k / w) (k % w) (setSp .norm (k / w) (k % w) s)) (j / w) (j % w) =
          sample d s (j / w) (j % w) :=
        (sample_normalise_other hs' hm (Nat.mod_lt _ hw) (raster_ne hkj)).trans (sample_congr rfl fun _ _ _ => rfl)
      have : shiftedSample d (normalise d (k / w) (k % w) (setSp .norm (k / w) (k % w) s)) (j / w) (j % w) =
          shiftedSample d s (j / w) (j % w) := shiftedSample_congr (by rw [normalise_frame]; rfl) ho
      simp only [rangeEntry, this]
    have hentry : rangeEntry d (setSp .norm (k / w) (k % w) s) (k / w) (k % w) =
        rangeEntry d s (k / w) (k % w) := by
      have : shiftedSample d (setSp .norm (k / w) (k % w) s) (k / w) (k % w) =
          shiftedSample d s (k / w) (k % w) := shiftedSample_congr rfl (sample_congr rfl fun _ _ _ => rfl)
      simp only [rangeEntry, this]
    have hcons : rangeLog d s w k (n + 1) =
        (rangeEntry d s (k / w) (k % w)).toList ++ rangeLog d s w (k + 1) n := by
      unfold rangeLog
      rw [List.range'_succ, List.filterMap_cons]
      cases rangeEntry d s (k / w) (k % w) <;> simp
    obtain ⟨h1, h2⟩ := ih (k + 1) (normalise d (k / w) (k % w) (setSp .norm (k / w) (k % w) s))
      (by rw [normalise_stride]; exact hs)
    rw [normPass, h1, h2, hlog, normalise_diag, normalise_warnCount, hentry, hcons]
    refine ⟨?_, ?_⟩
    · simp
    · rw [List.length_append, BitVec.ofNat_add]
      simp [BitVec.add_assoc]

/-- The pass keeps the form of `RAW`. -/
theorem wf_normPass (d : Depth) (w n k : Nat) (s : State) (h : Memory.wf s.raw) :
    Memory.wf (normPass d w n k s).raw := by
  induction n generalizing k s with
  | zero => exact h
  | succ n ih =>
    refine ih _ _ ?_
    rw [normalise_raw]
    cases d with
    | d8 => exact wf_memStore h _ _
    | d10 => exact wf_memStore (wf_memStore h _ _) _ _

/-- The pass stays below a size above its samples (R68). -/
theorem within_normPass (d : Depth) (w n k size : Nat) (s : State)
    (hn : ∀ j, k ≤ j → j < k + n → sampleAddr d s (j / w) (j % w) + containerBytes d ≤ size)
    (h : ∀ c ∈ s.raw, c.1 < size) : ∀ c ∈ (normPass d w n k s).raw, c.1 < size := by
  induction n generalizing k s with
  | zero => exact h
  | succ n ih =>
    refine ih _ _ (fun j h1 h2 => ?_) ?_
    · have ha : sampleAddr d (normalise d (k / w) (k % w) (setSp .norm (k / w) (k % w) s)) (j / w) (j % w) =
          sampleAddr d s (j / w) (j % w) := by rw [sampleAddr_eq, sampleAddr_eq, normalise_stride]; rfl
      rw [ha]; exact hn j (by omega) (by omega)
    · rw [normalise_raw]
      have hk := hn k (Nat.le_refl _) (by omega)
      cases d with
      | d8 => exact within_memStore h (by simp only [containerBytes] at hk; exact hk) _
      | d10 =>
        simp only [containerBytes] at hk
        refine within_memStore (within_memStore h ?_ _) ?_ _
        · have : sampleAddr .d10 (setSp .norm (k / w) (k % w) s) (k / w) (k % w) = sampleAddr .d10 s (k / w) (k % w) := rfl
          omega
        · have : sampleAddr .d10 (setSp .norm (k / w) (k % w) s) (k / w) (k % w) = sampleAddr .d10 s (k / w) (k % w) := rfl
          omega

end Sys2Proof.Machine
end

