-- ==== Sys2Proof/Laws/Command.lean ====
section
/-! SUPPORT. What a command can do: ignored while halted, ended by a failing check with only `STATUS` changed, or run to
completion (R221, R330); and what a step can be (R20, R21). -/

namespace Sys2Proof.Machine

/-! ### The mechanism -/

/-- A command is ignored while `HALT = 1` (R332). -/
theorem runCommand_halted {s : State} (h : s.status.halt = true) (b : Bool) (w : Word)
    (body : State → State × ResultCode) : runCommand b w body s = s := by simp [runCommand, h]

/-- A command on a ready engine is prologue, body, epilogue (R330). -/
theorem runCommand_ready {s : State} (h : s.status.halt = false) (b : Bool) (w : Word)
    (body : State → State × ResultCode) :
    runCommand b w body s = endCommand b (body (beginCommand w s)).2 (body (beginCommand w s)).1 := by
  simp [runCommand, h]

/-! ### Tags and rows -/

@[simp] theorem ofTag_tag (f : Format) : Format.ofTag f.tag = some f := by cases f <;> rfl

theorem tag_of_ofTag {t : BitVec 8} {f : Format} (h : Format.ofTag t = some f) : f.tag = t := by
  have := List.find?_some h
  simpa using this

@[simp] theorem resolve_tag (f : Format) : resolve f.tag = (f, false) := by simp [resolve]

theorem resolve_unrecognised {t : BitVec 8} (h : Format.ofTag t = none) : resolve t = (.yuyv, true) := by
  simp [resolve, h]

/-- The meaning of a format's row. -/
theorem exec_instr (f : Format) (s : State) : exec f.instr s = .next (decodeCommand f.tag s) := by cases f <;> rfl

/-- The meaning of `DECODE` with any tag (R91, R237). -/
theorem exec_decodeTag (arg : BitVec 8) (s : State) : exec (decodeTag arg) s = .next (decodeCommand arg s) := by
  unfold decodeTag
  split
  · next f h => rw [exec_instr, tag_of_ofTag h]
  · rfl

/-! ### The checks and the commit point -/

/-- The checks read registers only, which the prologue leaves alone (R221). -/
theorem decodeCheck_begin (f : Format) (w : Word) (s : State) :
    decodeCheck f (setSp .check 0 0 (beginCommand w s)) = decodeCheck f s := rfl

theorem decodeCheck_none {f : Format} {s : State} :
    decodeCheck f s = none ↔
      geometryHolds (classOf f) s = true ∧ buffersHold (classOf f) s = true ∧ kernelMissing f s = false := by
  unfold decodeCheck
  cases geometryHolds (classOf f) s <;> cases buffersHold (classOf f) s <;> cases kernelMissing f s <;> simp

/-- A check fails with one of three codes (R221). -/
theorem decodeCheck_code {f : Format} {s : State} {c : ResultCode} (h : decodeCheck f s = some c) :
    c = .geometry ∨ c = .buffer ∨ c = .noKernel := by
  unfold decodeCheck at h
  split at h
  · simp_all
  · split at h
    · simp_all
    · split at h
      · simp_all
      · cases h

theorem phaseWarning_frame (f : Format) (arg : BitVec 8) (s : State) :
    phaseWarning f arg s =
      { s with diag := (phaseWarning f arg s).diag, warnCount := (phaseWarning f arg s).warnCount } := by
  unfold phaseWarning; split <;> rfl

theorem fallbackWarning_frame (b : Bool) (arg : BitVec 8) (s : State) :
    fallbackWarning b arg s =
      { s with diag := (fallbackWarning b arg s).diag, warnCount := (fallbackWarning b arg s).warnCount } := by
  unfold fallbackWarning; split <;> rfl

/-- The commit changes `DIAG` and `WARN_COUNT` only (R229). -/
theorem commit_frame (f : Format) (b : Bool) (arg : BitVec 8) (s : State) :
    commit f b arg s =
      { s with diag := (commit f b arg s).diag, warnCount := (commit f b arg s).warnCount } := by
  unfold commit; rw [phaseWarning_frame, fallbackWarning_frame]

/-- The commit of a format that has no phase to warn of logs nothing (R229). -/
theorem commit_plain {f : Format} (h : bayerTag f = none) (arg : BitVec 8) (s : State) :
    commit f false arg s = { s with warnCount := 0 } := by
  simp [commit, phaseWarning, fallbackWarning, h]

/-- The state a passing `DECODE` commits (R221 steps 1, 2, 7 to 9). -/
def committed (f : Format) (b : Bool) (arg : BitVec 8) (s : State) : State :=
  commit f b arg (setSp .check 0 0 (beginCommand (decodeWord arg) s))

/-- A `DECODE` whose check fails changes `STATUS` only (R235). -/
theorem decodeCommand_error {arg : BitVec 8} {s : State} {c : ResultCode} (hh : s.status.halt = false)
    (h : decodeCheck (resolve arg).1 s = some c) :
    decodeCommand arg s =
      { s with status := s.status.ended c false, sp := ScanPtr.home, cmd := 0 } := by
  have hc : c ≠ .ok := by rcases decodeCheck_code h with rfl | rfl | rfl <;> simp
  unfold decodeCommand
  rw [runCommand_ready hh]
  unfold decodeBody
  rw [decodeCheck_begin, h]
  simp [endCommand, hc, Status.ended, Status.accepted, setSp, beginCommand]

/-- A `DECODE` that passes its checks commits, runs its path and completes (R221). -/
theorem decodeCommand_pass {arg : BitVec 8} {s : State} (hh : s.status.halt = false)
    (h : decodeCheck (resolve arg).1 s = none) :
    decodeCommand arg s =
      endCommand true .ok (runPath (resolve arg).1 (committed (resolve arg).1 (resolve arg).2 arg s)) := by
  unfold decodeCommand
  rw [runCommand_ready hh]
  unfold decodeBody
  rw [decodeCheck_begin, h]
  rfl

/-- What a `DECODE` can do (R221, R330, R332). -/
theorem decodeCommand_cases (arg : BitVec 8) (s : State) :
    (s.status.halt = true ∧ decodeCommand arg s = s) ∨
    (s.status.halt = false ∧ ∃ c, decodeCheck (resolve arg).1 s = some c ∧ decodeCommand arg s =
      { s with status := s.status.ended c false, sp := ScanPtr.home, cmd := 0 }) ∨
    (s.status.halt = false ∧ decodeCheck (resolve arg).1 s = none ∧ decodeCommand arg s =
      endCommand true .ok (runPath (resolve arg).1 (committed (resolve arg).1 (resolve arg).2 arg s))) := by
  cases hh : s.status.halt
  · cases h : decodeCheck (resolve arg).1 s with
    | some c => exact .inr (.inl ⟨rfl, c, rfl, decodeCommand_error hh h⟩)
    | none => exact .inr (.inr ⟨rfl, rfl, decodeCommand_pass hh h⟩)
  · exact .inl ⟨rfl, runCommand_halted hh _ _ _⟩

/-! ### The paths -/

/-- The scan changes `RGB` and `SP` only (R250, R280). -/
theorem scanPath_frame (f : Format) (s : State) :
    scanPath f s = { s with rgb := (scanPath f s).rgb, sp := (scanPath f s).sp } := paint_frame _ _ _ _ _ _

theorem runPath_scan {f : Format} (h : bayerTag f = none) (s : State) : runPath f s = scanPath f s := by
  simp [runPath, h]

theorem runPath_bayer {f : Format} {d : Depth} {p : CfaPhase} (h : bayerTag f = some (d, p)) (s : State) :
    runPath f s = bayerPath d s := by simp [runPath, h]

/-- Pass 2 changes `RGB` and `SP` only (R300). -/
theorem reconstruct_frame (d : Depth) (s : State) :
    reconstruct d s = { s with rgb := (reconstruct d s).rgb, sp := (reconstruct d s).sp } := by
  unfold reconstruct
  split
  · exact kernelPass_frame _ s
  · rfl

/-- The kernel of a slot is the one the key names (R98, R305). -/
theorem selectedKernel_of_id {d : Depth} {s : State} {a : Alg} (hs : slotFor d s = a.id) (hk : hasKernel a d = true) :
    selectedKernel d s = some a := by
  unfold selectedKernel
  rw [hs]
  revert hk
  cases a <;> cases d <;> decide

theorem selectedKernel_none {d : Depth} {s : State} (h : slotFor d s = noKernelId) : selectedKernel d s = none := by
  unfold selectedKernel
  rw [h]
  cases d <;> decide

/-- A pass that ends a command keeps the form of the memories, because the epilogue writes neither. -/
theorem wf_runPath {f : Format} {s : State} (hr : Memory.wf s.raw) (hg : Memory.wf s.rgb) :
    Memory.wf (runPath f s).raw ∧ Memory.wf (runPath f s).rgb := by
  unfold runPath
  split
  · next d p _ =>
    have hn := wf_normPass d s.width.toNat (pixelCount s) 0 s hr
    refine ⟨?_, ?_⟩
    · rw [bayerPath, reconstruct_frame]; exact hn
    · unfold bayerPath reconstruct
      split
      · exact wf_paint _ _ _ _ _ _ (by rw [normPass_rgb]; exact hg)
      · rw [normPass_rgb]; exact hg
  · exact ⟨by rw [scanPath_frame]; exact hr, wf_paint _ _ _ _ _ _ hg⟩

/-! ### The step -/

theorem step_idle {s : State} (h : s.sp.phase = .idle) : step s = idleStep s := by simp [step, h]

theorem step_kern {s : State} (h : s.sp.phase = .kern) : step s = kernelStep s := by simp [step, h]

/-- An idle engine performs the host's next action (R21). -/
theorem step_port {s : State} {op : HostOp} {rest : List HostOp} (h : s.sp.phase = .idle) (hp : s.port = op :: rest) :
    step s = hostStep op { s with port := rest } := by rw [step_idle h, idleStep, hp]

theorem step_noAction {s : State} (h : s.sp.phase = .idle) (hp : s.port = []) : step s = .next s := by
  rw [step_idle h, idleStep, hp]

end Sys2Proof.Machine
end

