-- ==== Sys2Proof/Laws/Checks.lean ====
section
/-! SUPPORT. The model's checks of a `DECODE` against the tables of R223, R226 and R228 by format. -/

namespace Sys2Proof.Machine

/-- The geometry check is the negation of the conditions of R226. -/
theorem geometryHolds_iff (f : Format) (s : State) :
    geometryHolds (classOf f) s = true ↔
      ¬GeometryBad f s.width.toNat s.height.toNat s.stride.toNat := by
  unfold geometryHolds
  generalize s.width.toNat = w
  generalize s.height.toNat = h
  generalize s.stride.toNat = st
  cases f <;>
    simp [geometryOk, GeometryBad, classOf, evenOk, strideOk, pixelBytes, bytesPerPixel, bayer8Formats,
      bayer10Formats] <;> omega

theorem sourceBytes_eq (f : Format) (s : State) :
    sourceBytes (classOf f) s = sourceNeed f s.width.toNat s.height.toNat s.stride.toNat := by
  cases f <;> simp [sourceBytes, srcNeed, classOf, sourceNeed, bytesPerPixel]

/-- The buffer check is the negation of the conditions of R228. -/
theorem buffersHold_iff (f : Format) (s : State) : buffersHold (classOf f) s = true ↔ ¬BufferBad f s := by
  unfold buffersHold BufferBad
  rw [sourceBytes_eq]
  unfold outputBytes dstNeed
  generalize 3 * s.width.toNat * s.height.toNat = n
  generalize sourceNeed f s.width.toNat s.height.toNat s.stride.toNat = m
  simp only [Bool.and_eq_true, decide_eq_true_eq]
  omega

/-- A non-Bayer format has no kernel check (R225). -/
theorem kernelMissing_plain {f : Format} (h : bayerTag f = none) (s : State) : kernelMissing f s = false := by
  simp [kernelMissing, h]

theorem kernelMissing_bayer {f : Format} {d : Depth} {p : CfaPhase} (h : bayerTag f = some (d, p)) (s : State) :
    kernelMissing f s = (selectedKernel d s).isNone := by
  simp [kernelMissing, h]

/-- A slot that holds "no kernel" fails the kernel check (R225). -/
theorem kernelMissing_of_slotEmpty {f : Format} {s : State} (h : SlotEmpty f s) : kernelMissing f s = true := by
  rcases h with ⟨hf, hs⟩ | ⟨hf, hs⟩
  · have hn : selectedKernel .d8 s = none := selectedKernel_none hs
    simp only [bayer8Formats, List.mem_cons, List.not_mem_nil, or_false] at hf
    rcases hf with rfl | rfl | rfl | rfl <;> simp [kernelMissing, bayerTag, hn]
  · have hn : selectedKernel .d10 s = none := selectedKernel_none hs
    simp only [bayer10Formats, List.mem_cons, List.not_mem_nil, or_false] at hf
    rcases hf with rfl | rfl | rfl | rfl <;> simp [kernelMissing, bayerTag, hn]

/-- A slot that holds the id of an algorithm with a kernel of the depth passes the kernel check (R305). -/
theorem kernelMissing_of_id {f : Format} {s : State} {d : Depth} {p : CfaPhase} {a : Alg}
    (hb : bayerTag f = some (d, p)) (hs : slotFor d s = a.id) (hk : hasKernel a d = true) :
    kernelMissing f s = false := by
  rw [kernelMissing_bayer hb, selectedKernel_of_id hs hk]; rfl

/-- A `DECODE` of a format that is not Bayer passes its checks when none of R226 and R228 fails. -/
theorem decodeCheck_pass {f : Format} {s : State} (h : ChecksPass f s) (hk : kernelMissing f s = false) :
    decodeCheck f s = none :=
  decodeCheck_none.2 ⟨(geometryHolds_iff f s).2 h.1, (buffersHold_iff f s).2 h.2.1, hk⟩

theorem decodeCheck_geometry {f : Format} {s : State}
    (h : GeometryBad f s.width.toNat s.height.toNat s.stride.toNat) : decodeCheck f s = some .geometry := by
  have : geometryHolds (classOf f) s = false := by
    rw [← Bool.not_eq_true, geometryHolds_iff]; exact fun n => n h
  simp [decodeCheck, this]

theorem decodeCheck_buffer {f : Format} {s : State}
    (hg : ¬GeometryBad f s.width.toNat s.height.toNat s.stride.toNat) (h : BufferBad f s) :
    decodeCheck f s = some .buffer := by
  have h1 := (geometryHolds_iff f s).2 hg
  have h2 : buffersHold (classOf f) s = false := by
    rw [← Bool.not_eq_true, buffersHold_iff]; exact fun n => n h
  simp [decodeCheck, h1, h2]

theorem decodeCheck_slot {f : Format} {s : State}
    (hg : ¬GeometryBad f s.width.toNat s.height.toNat s.stride.toNat) (hb : ¬BufferBad f s)
    (h : kernelMissing f s = true) : decodeCheck f s = some .noKernel := by
  have h1 := (geometryHolds_iff f s).2 hg
  have h2 := (buffersHold_iff f s).2 hb
  simp [decodeCheck, h1, h2, h]

/-- The plane of a passing decode is not empty and fits the memories (R68). -/
theorem fits_of_check {f : Format} {s : State} (h : decodeCheck f s = none) :
    planeFits (classOf f) s = true ∧ 0 < s.width.toNat ∧ 0 < s.height.toNat ∧
      3 * (s.width.toNat * s.height.toNat) ≤ s.rgbLen.toNat := by
  obtain ⟨hg, hb, -⟩ := decodeCheck_none.1 h
  have hg' := (geometryHolds_iff f s).1 hg
  have hb' := (buffersHold_iff f s).1 hb
  unfold GeometryBad at hg'
  unfold BufferBad at hb'
  rw [← sourceBytes_eq] at hb'
  have hm : 3 * s.width.toNat * s.height.toNat = 3 * (s.width.toNat * s.height.toNat) := by ring
  rw [hm] at hb'
  refine ⟨?_, by omega, by omega, by omega⟩
  unfold planeFits outputBytes dstNeed
  rw [hm]
  simp only [Bool.or_eq_true, Bool.and_eq_true, decide_eq_true_eq]
  exact .inr (by omega)

end Sys2Proof.Machine
end

