-- ==== Sys2Proof/Laws/Encoding.lean ====
section
/-! SUPPORT. The fields of an encoded command word (R90). -/

namespace Sys2Proof

/-- Bit `k` of an encoded word: of `opc` below 8, of `arg` below 16, of `imm` from 16 on (R90). -/
theorem getLsbD_commandWord (o a : BitVec 8) (i : BitVec 16) (k : Nat) :
    (commandWord o a i).getLsbD k =
      if k < 8 then o.getLsbD k else if k - 8 < 8 then a.getLsbD (k - 8) else i.getLsbD (k - 8 - 8) := by
  unfold commandWord
  rw [show (i ++ a ++ o : Word) = (i ++ a : BitVec (16 + 8)) ++ o from rfl, BitVec.getLsbD_append,
    BitVec.getLsbD_append]

@[simp] theorem opcOf_commandWord (o a : BitVec 8) (i : BitVec 16) : opcOf (commandWord o a i) = o := by
  unfold opcOf
  ext k hk
  rw [BitVec.getElem_extractLsb', getLsbD_commandWord, if_pos (by omega), Nat.zero_add,
    BitVec.getLsbD_eq_getElem hk]

@[simp] theorem argOf_commandWord (o a : BitVec 8) (i : BitVec 16) : argOf (commandWord o a i) = a := by
  unfold argOf
  ext k hk
  rw [BitVec.getElem_extractLsb', getLsbD_commandWord, if_neg (by omega), if_pos (by omega),
    Nat.add_sub_cancel_left, BitVec.getLsbD_eq_getElem hk]

@[simp] theorem immOf_commandWord (o a : BitVec 8) (i : BitVec 16) : immOf (commandWord o a i) = i := by
  unfold immOf
  ext k hk
  rw [BitVec.getElem_extractLsb', getLsbD_commandWord, if_neg (by omega), if_neg (by omega),
    show 16 + k - 8 - 8 = k by omega, BitVec.getLsbD_eq_getElem hk]

/-- A word is its three fields (R90). -/
theorem commandWord_fields (w : Word) : commandWord (opcOf w) (argOf w) (immOf w) = w := by
  unfold opcOf argOf immOf commandWord
  ext k hk
  simp only [BitVec.getElem_append, BitVec.getElem_extractLsb']
  split
  · simp [BitVec.getLsbD_eq_getElem hk]
  · split
    · simp only [show 8 + (k - 8) = k by omega, BitVec.getLsbD_eq_getElem hk]
    · simp only [show 16 + (k - 8 - 8) = k by omega, BitVec.getLsbD_eq_getElem hk]

end Sys2Proof
end

