-- ==== Sys2Proof/Laws/Decode.lean ====
section
/-! SUPPORT. What a passing `DECODE` leaves, in the terms of Safety: the image painted, the registers of a completed
command, the log. -/

namespace Sys2Proof.Machine

/-- Painting pixel functions that agree on the plane is the same claim. -/
theorem Painted.congr {s t : State} {f g : Nat → Nat → Rgb} (h : Painted s t f)
    (hfg : ∀ y x, y < s.height.toNat → x < s.width.toNat → f y x = g y x) : Painted s t g :=
  ⟨fun y x hy hx => hfg y x hy hx ▸ h.1 y x hy hx, h.2⟩

/-- A whole raster pass paints its pixel function, wherever `RGB` goes next unchanged (R232, R238). -/
theorem painted_paint {ph : Phase} {pixel : Nat → Nat → Rgb} {s u t : State} (hw : u.width = s.width)
    (hh : u.height = s.height) (hc : u.ctrl = s.ctrl) (hg : u.rgb = s.rgb)
    (ht : t.rgb = (paint ph u.width.toNat pixel (pixelCount u) 0 u).rgb) : Painted s t pixel := by
  refine ⟨fun y x hy hx => ?_, fun a ha => ?_⟩
  · have h := readRgb_paint_pixel ph pixel u (hh ▸ hy : y < u.height.toNat) (hw ▸ hx : x < u.width.toNat)
    simp only [pixelAddr] at h
    unfold PixelShown
    simp only [readRgb_congr ht, ← hw, h.1, h.2.1, h.2.2, swapRb, hc, storedOrder]
    split <;> exact ⟨rfl, rfl, rfl⟩
  · rw [readRgb_congr ht, readRgb_paint_beyond, readRgb_congr hg]
    unfold outputBytes dstNeed
    rw [hw, hh]; exact ha

/-- The pixel of a scanned format depends on `RAW` and the geometry only (R250, R280). -/
theorem scanPixel_congr {f : Format} {s t : State} (hr : s.raw = t.raw) (hw : s.width = t.width)
    (hh : s.height = t.height) (hs : s.stride = t.stride) (y x : Nat) : scanPixel f s y x = scanPixel f t y x := by
  have hb : readRaw s = readRaw t := funext fun a => readRaw_congr hr a
  cases f <;>
    simp [scanPixel, fetchYuyv, fetchUyvy, fetchNv12, fetchNv21, fetchNv16, fetchYuv411p, fetchYvu411p, fetchYuv420p,
      fetchYvu420p, fetchYuv422p, fetchYvu422p, fetchYuv444p, fetchYvu444p, fetchGrey8, fetchY10, fetchY12,
      fetchRgb332, fetchRgb555, fetchRgb565, fetchRgb555x, fetchRgb565x, fetchBgr24, fetchRgb24, fetchBgr32,
      fetchRgb32, lumaAt, planeAddr, pixelCount, readRaw16, readRaw16BE, hb, hw, hh, hs]

/-- The log of a scanned `DECODE`: the fallback warning, if it fell back (R224). -/
def scanLog (b : Bool) (arg : BitVec 8) : List DiagEntry := if b then [⟨.formatFallback, 0, 0, 0#8 ++ arg⟩] else []

/-- The commit of a format that is not Bayer. -/
theorem committed_plain {f : Format} (h : bayerTag f = none) (b : Bool) (arg : BitVec 8) (s : State) :
    committed f b arg s =
      { s with
        status := s.status.accepted, cmd := decodeWord arg, sp := ⟨.check, 0, 0⟩
        warnCount := BitVec.ofNat 32 (scanLog b arg).length, diag := s.diag ++ scanLog b arg } := by
  cases b <;> simp [committed, commit, phaseWarning, fallbackWarning, h, scanLog, logDiag, setSp, beginCommand]

/-- What a passing `DECODE` of a scanned format leaves (R221, R234, R237). -/
theorem decodeCommand_scan {arg : BitVec 8} {f : Format} {b : Bool} {s : State} (hr : resolve arg = (f, b))
    (hb : bayerTag f = none) (hh : s.status.halt = false) (hc : decodeCheck f s = none) :
    Completed s (decodeCommand arg s) (scanLog b arg) ∧
      (∀ a, readRaw (decodeCommand arg s) a = readRaw s a) ∧ Painted s (decodeCommand arg s) (scanPixel f s) := by
  have h := decodeCommand_pass (arg := arg) hh (by rw [hr]; exact hc)
  rw [hr] at h
  simp only [runPath_scan hb] at h
  have hraw : (decodeCommand arg s).raw = s.raw := by
    rw [h, scanPath_frame, committed_plain hb]; rfl
  refine ⟨?_, fun a => readRaw_congr hraw a, ?_⟩
  · rw [h, Completed]
    rw [scanPath_frame, committed_plain hb]
    cases b <;> simp [endCommand, scanLog, Status.ended, Status.accepted, hh, ScanPtr.home, ResultCode.fatal]
  · have hp : Painted s (decodeCommand arg s) (scanPixel f (committed f b arg s)) := by
      refine painted_paint (u := committed f b arg s) (ph := .scan) ?_ ?_ ?_ ?_ ?_
      · rw [committed_plain hb]
      · rw [committed_plain hb]
      · rw [committed_plain hb]
      · rw [committed_plain hb]
      · rw [h]; rfl
    refine hp.congr fun y x _ _ => ?_
    exact scanPixel_congr (by rw [committed_plain hb]) (by rw [committed_plain hb]) (by rw [committed_plain hb])
      (by rw [committed_plain hb]) y x

/-- The same for the row of a scanned format, which logs nothing (R250, R280). -/
theorem exec_scan {f : Format} {s : State} (hb : bayerTag f = none) (hh : s.status.halt = false)
    (hc : ChecksPass f s) : ∃ t, exec f.instr s = .next t ∧ Scanned s t (scanPixel f s) := by
  refine ⟨_, exec_instr f s, ?_⟩
  exact decodeCommand_scan (b := false) (resolve_tag f) hb hh (decodeCheck_pass hc (kernelMissing_plain hb s))

end Sys2Proof.Machine
end

