-- ==== Sys2Proof/Laws/Kernel.lean ====
section
/-! SUPPORT. The small facts of the kernels: the border rule, the means, the reductions and the colorspace clamp
(R152, R153, R154, R120). -/

namespace Sys2Proof.Machine

/-- A mirrored position is inside the plane (R152). -/
theorem mirror_lt {c n : Nat} (d : Int) (h : c < n) : mirror c d n < n := by
  unfold mirror; split
  · omega
  · split <;> omega

/-- A mirrored position keeps the parity of the true neighbour, for the distances the kernels use (R152). -/
theorem mirror_parity {c n : Nat} {d : Int} (h : c < n) (hn : 2 ≤ n) (hd : -2 ≤ d ∧ d ≤ 2) :
    (mirror c d n : Int) % 2 = ((c : Int) + d) % 2 := by
  unfold mirror; split
  · omega
  · split
    · omega
    · have : d = -2 ∨ d = -1 ∨ d = 0 ∨ d = 1 ∨ d = 2 := by omega
      rcases this with rfl | rfl | rfl | rfl | rfl <;> omega

@[simp] theorem mirror_zero {c n : Nat} (h : c < n) : mirror c 0 n = c := by
  unfold mirror; rw [if_pos (by omega)]; omega

@[simp] theorem avg2_self (k : Nat) : avg2 k k = k := by unfold avg2; omega

@[simp] theorem avg4_self (k : Nat) : avg4 k k k k = k := by unfold avg4; omega

/-- A sample fits its container. -/
theorem sample_lt (d : Depth) (s : State) (y x : Nat) : sample d s y x < 65536 := by
  cases d
  · have := (readRaw s (sampleAddr .d8 s y x)).isLt
    simp only [sample]; omega
  · exact (readRaw16 s (sampleAddr .d10 s y x)).isLt

theorem sample8_le (s : State) (y x : Nat) : sample .d8 s y x ≤ 255 := by
  have := (readRaw s (sampleAddr .d8 s y x)).isLt
  simp only [sample]; omega

/-- An estimate is a sample of its depth (R204). -/
theorem clipSample_le (d : Depth) (v : Int) : clipSample d v ≤ maxSample d := by
  unfold clipSample; omega

/-- With a zero weight the estimates are the bilinear means (R204). -/
theorem est2_zero {d : Depth} {l : Nat} (dt : Int) (h : (l + 1) / 2 ≤ maxSample d) : est2 d l 0 dt = (l + 1) / 2 := by
  have : floorShift (512 * (l : Int) + ((0 : Nat) : Int) * dt + 512) 10 = ((l + 1) / 2 : Nat) := by
    simp only [floorShift]; push_cast; omega
  rw [est2, this, clipSample]; omega

theorem est4_zero {d : Depth} {l : Nat} (dt : Int) (h : (l + 2) / 4 ≤ maxSample d) : est4 d l 0 dt = (l + 2) / 4 := by
  have : floorShift (256 * (l : Int) + ((0 : Nat) : Int) * dt + 512) 10 = ((l + 2) / 4 : Nat) := by
    simp only [floorShift]; push_cast; omega
  rw [est4, this, clipSample]; omega

/-- Where the detail term is zero the estimates are the bilinear means (R210). -/
theorem est2_flat {d : Depth} {l : Nat} (w : Nat) (h : (l + 1) / 2 ≤ maxSample d) : est2 d l w 0 = (l + 1) / 2 := by
  rw [← est2_zero 0 h]; simp [est2]

theorem est4_flat {d : Depth} {l : Nat} (w : Nat) (h : (l + 2) / 4 ≤ maxSample d) : est4 d l w 0 = (l + 2) / 4 := by
  rw [← est4_zero 0 h]; simp [est4]

/-- A clamped byte as a number (R9). -/
theorem clip8_toNat (v : Int) : ((clip8 v).toNat : Int) = max 0 (min 255 v) := by
  unfold clip8
  rw [BitVec.toNat_ofNat]
  omega

/-- The clamp is non-decreasing (R124). -/
theorem clip8_mono {a b : Int} (h : a ≤ b) : (clip8 a).toNat ≤ (clip8 b).toNat := by
  have ha := clip8_toNat a
  have hb := clip8_toNat b
  omega

end Sys2Proof.Machine
end

