-- ==== Sys2Proof/Laws/Bayer.lean ====
section
/-! SUPPORT. What a passing Bayer `DECODE` leaves, in the terms of Safety: the samples normalised, the kernel's image,
the phase and range warnings (R300 to R306). -/

namespace Sys2Proof.Machine

/-- The pixel of a kernel depends on `RAW`, the geometry and `SHARPNESS` only (R151). -/
theorem kernelPixel_congr {a : Alg} {d : Depth} {s t : State} (hr : s.raw = t.raw) (hw : s.width = t.width)
    (hh : s.height = t.height) (hs : s.stride = t.stride) (hv : s.sharpness = t.sharpness) (y x : Nat) :
    kernelPixel a d s y x = kernelPixel a d t y x := by
  have hsa : sample d s = sample d t := by
    funext y x; exact sample_congr hs fun b _ _ => readRaw_congr hr b
  have hnb : nb d s = nb d t := by funext y x dy dx; rw [nb, nb, hsa, hw, hh]
  cases a <;>
    simp [kernelPixel, cottnoipPixel, cottPixel, horipPixel, ipPixel, gptmPixel, gptmFastPixel, adaptivePixel, detail,
      diagSum, farSum, hsa, hnb, hw, hh, hv]

/-- The phase warning a Bayer tag logs (R301). -/
def phaseLog (p : CfaPhase) (arg : BitVec 8) : List DiagEntry :=
  match p with
  | .grbg => []
  | .rggb | .bggr | .gbrg => [⟨.cfaPhase, 0, 0, 0#8 ++ arg⟩]

/-- The commit of a Bayer format. -/
theorem committed_bayer {f : Format} {d : Depth} {p : CfaPhase} (h : bayerTag f = some (d, p)) (arg : BitVec 8)
    (s : State) :
    committed f false arg s =
      { s with
        status := s.status.accepted, cmd := decodeWord arg, sp := ⟨.check, 0, 0⟩
        warnCount := BitVec.ofNat 32 (phaseLog p arg).length, diag := s.diag ++ phaseLog p arg } := by
  cases p <;> simp [committed, commit, phaseWarning, fallbackWarning, h, phaseLog, logDiag, setSp, beginCommand]

/-- The state between the two passes of a Bayer decode. -/
def normalisedState (d : Depth) (f : Format) (s : State) : State :=
  normPass d s.width.toNat (pixelCount s) 0 (committed f false f.tag s)

/-- A passing Bayer decode is the normalisation pass, the kernel pass and the epilogue (R300). -/
theorem decodeCommand_bayer {f : Format} {d : Depth} {p : CfaPhase} {a : Alg} {s : State}
    (hb : bayerTag f = some (d, p)) (hh : s.status.halt = false) (hc : ChecksPass f s)
    (hs : slotFor d s = a.id) (hk : hasKernel a d = true) :
    decodeCommand f.tag s = endCommand true .ok (kernelPass (kernelPixel a d) (normalisedState d f s)) := by
  have h := decodeCommand_pass (arg := f.tag) hh
    (by rw [resolve_tag]; exact decodeCheck_pass hc (kernelMissing_of_id hb hs hk))
  rw [resolve_tag] at h
  simp only [runPath_bayer hb, bayerPath] at h
  have hn : normPass d (committed f false f.tag s).width.toNat (pixelCount (committed f false f.tag s)) 0
      (committed f false f.tag s) = normalisedState d f s := by
    rw [normalisedState, committed_bayer hb]; rfl
  rw [hn] at h
  have hsel : selectedKernel d (normalisedState d f s) = some a := by
    refine selectedKernel_of_id ?_ hk
    rw [normalisedState, normPass_frame, committed_bayer hb, ← hs]
    cases d <;> rfl
  rw [h, reconstruct, hsel]

/-- The fields of the state between the passes. -/
theorem normalisedState_frame {f : Format} {d : Depth} {p : CfaPhase} (hb : bayerTag f = some (d, p)) (s : State) :
    normalisedState d f s =
      { s with
        status := s.status.accepted, cmd := decodeWord f.tag
        sp := (normalisedState d f s).sp, raw := (normalisedState d f s).raw
        warnCount := (normalisedState d f s).warnCount, diag := (normalisedState d f s).diag } := by
  unfold normalisedState
  rw [committed_bayer hb]
  exact normPass_frame _ _ _ _ _

/-- Every sample of the plane after pass 1 (R303). -/
theorem sample_normalisedState {f : Format} {d : Depth} {p : CfaPhase} (hb : bayerTag f = some (d, p)) {s : State}
    (hs : containerBytes d * s.width.toNat ≤ s.stride.toNat) {y x : Nat} (hy : y < s.height.toNat)
    (hx : x < s.width.toNat) :
    sample d (normalisedState d f s) y x = normalised d s y x := by
  have hw : 0 < s.width.toNat := by omega
  have h := sample_normPass hw (pixelCount s) 0 (committed f false f.tag s) (d := d)
    (by rw [committed_bayer hb]; exact hs) (y * s.width.toNat + x)
  rw [raster_div hx, raster_mod hx, if_pos ⟨by omega, by rw [Nat.zero_add]; exact raster_lt hy hx⟩] at h
  rw [normalisedState, h, committed_bayer hb]
  exact normalised_congr rfl rfl (sample_congr rfl fun _ _ _ => rfl)

end Sys2Proof.Machine
end

