-- ==== Sys2Proof/Laws/PerInstr.lean ====
section
/-! SUPPORT. The one family of statements made per instruction: the encoding of every instruction, well formed or not,
keeps the field layout of R90 and R98. -/

namespace Sys2Proof.Laws.FieldLayout

/-- A command word has an opcode of 0x01 to 0x04, `IMM` zero except in `SETSHARP`, and `ARG` zero in `SELECT` and
`SETSHARP` (R90, R91); a kernel key is that of an existing kernel (R98). -/
def Statement (i : Instr) : Prop :=
  match encode i with
  | .command w =>
    (opcOf w = 1#8 ∧ immOf w = 0#16) ∨ (opcOf w = 2#8 ∧ argOf w = 0#8 ∧ immOf w = 0#16) ∨
      (opcOf w = 3#8 ∧ argOf w = 0#8) ∨ (opcOf w = 4#8 ∧ immOf w = 0#16)
  | .kernel key => (kernelRow key).isSome = true

theorem yuyv : Statement .yuyv := by simp [Statement, encode, opcOf, argOf, immOf]
theorem uyvy : Statement .uyvy := by simp [Statement, encode, opcOf, argOf, immOf]
theorem nv12 : Statement .nv12 := by simp [Statement, encode, opcOf, argOf, immOf]
theorem nv21 : Statement .nv21 := by simp [Statement, encode, opcOf, argOf, immOf]
theorem nv16 : Statement .nv16 := by simp [Statement, encode, opcOf, argOf, immOf]
theorem yuv411p : Statement .yuv411p := by simp [Statement, encode, opcOf, argOf, immOf]
theorem yvu411p : Statement .yvu411p := by simp [Statement, encode, opcOf, argOf, immOf]
theorem yuv420p : Statement .yuv420p := by simp [Statement, encode, opcOf, argOf, immOf]
theorem yvu420p : Statement .yvu420p := by simp [Statement, encode, opcOf, argOf, immOf]
theorem yuv422p : Statement .yuv422p := by simp [Statement, encode, opcOf, argOf, immOf]
theorem yvu422p : Statement .yvu422p := by simp [Statement, encode, opcOf, argOf, immOf]
theorem yuv444p : Statement .yuv444p := by simp [Statement, encode, opcOf, argOf, immOf]
theorem yvu444p : Statement .yvu444p := by simp [Statement, encode, opcOf, argOf, immOf]
theorem grey8 : Statement .grey8 := by simp [Statement, encode, opcOf, argOf, immOf]
theorem y10 : Statement .y10 := by simp [Statement, encode, opcOf, argOf, immOf]
theorem y12 : Statement .y12 := by simp [Statement, encode, opcOf, argOf, immOf]
theorem rgb332 : Statement .rgb332 := by simp [Statement, encode, opcOf, argOf, immOf]
theorem rgb555 : Statement .rgb555 := by simp [Statement, encode, opcOf, argOf, immOf]
theorem rgb565 : Statement .rgb565 := by simp [Statement, encode, opcOf, argOf, immOf]
theorem rgb555x : Statement .rgb555x := by simp [Statement, encode, opcOf, argOf, immOf]
theorem rgb565x : Statement .rgb565x := by simp [Statement, encode, opcOf, argOf, immOf]
theorem bgr24 : Statement .bgr24 := by simp [Statement, encode, opcOf, argOf, immOf]
theorem rgb24 : Statement .rgb24 := by simp [Statement, encode, opcOf, argOf, immOf]
theorem bgr32 : Statement .bgr32 := by simp [Statement, encode, opcOf, argOf, immOf]
theorem rgb32 : Statement .rgb32 := by simp [Statement, encode, opcOf, argOf, immOf]
theorem sgrbg8 : Statement .sgrbg8 := by simp [Statement, encode, opcOf, argOf, immOf]
theorem srggb8 : Statement .srggb8 := by simp [Statement, encode, opcOf, argOf, immOf]
theorem sbggr8 : Statement .sbggr8 := by simp [Statement, encode, opcOf, argOf, immOf]
theorem sgbrg8 : Statement .sgbrg8 := by simp [Statement, encode, opcOf, argOf, immOf]
theorem sgrbg10 : Statement .sgrbg10 := by simp [Statement, encode, opcOf, argOf, immOf]
theorem srggb10 : Statement .srggb10 := by simp [Statement, encode, opcOf, argOf, immOf]
theorem sbggr10 : Statement .sbggr10 := by simp [Statement, encode, opcOf, argOf, immOf]
theorem sgbrg10 : Statement .sgbrg10 := by simp [Statement, encode, opcOf, argOf, immOf]
theorem fallback (tag : BitVec 8) : Statement (.fallback tag) := by simp [Statement, encode]
theorem select : Statement .select := by simp [Statement, encode, opcOf, argOf, immOf]
theorem setsharp (value : Half) : Statement (.setsharp value) := by simp [Statement, encode]
theorem list (idx : BitVec 8) : Statement (.list idx) := by simp [Statement, encode]
theorem cottnoip8 : Statement .cottnoip8 := by unfold Statement encode; decide
theorem cottnoip10 : Statement .cottnoip10 := by unfold Statement encode; decide
theorem cott8 : Statement .cott8 := by unfold Statement encode; decide
theorem horip8 : Statement .horip8 := by unfold Statement encode; decide
theorem ip8 : Statement .ip8 := by unfold Statement encode; decide
theorem gptm8 : Statement .gptm8 := by unfold Statement encode; decide
theorem gptm10 : Statement .gptm10 := by unfold Statement encode; decide
theorem gptmFast8 : Statement .gptmFast8 := by unfold Statement encode; decide

end Sys2Proof.Laws.FieldLayout
end

