-- ==== Sys2Proof/Laws/Registry.lean ====
section
/-! SUPPORT. What the registry commands can do (R131, R132, R135, R137, R138). -/

namespace Sys2Proof.Machine

/-- The matching entry, when there is one, has the name that was given (R130). -/
theorem matchingEntry_some {s : State} {a : Alg} (h : matchingEntry s = some a) :
    padName (algName a) = nameOperand s := by simpa using List.find?_some h

/-- The six names are pairwise different (R130). -/
theorem padName_injective {a b : Alg} (h : padName (algName a) = padName (algName b)) : a = b := by
  revert h; cases a <;> cases b <;> decide

/-- An entry whose name is given is the matching entry (R130). -/
theorem matchingEntry_of_name {s : State} {a : Alg} (h : padName (algName a) = nameOperand s) :
    matchingEntry s = some a := by
  unfold matchingEntry
  have key : ∀ b, decide (padName (algName b) = nameOperand s) = decide (b = a) := by
    intro b
    rw [← h]
    exact decide_eq_decide.2 ⟨padName_injective, fun e => by rw [e]⟩
  simp only [key]
  cases a <;> rfl

/-- No entry matches a name that is none of the six (R132). -/
theorem matchingEntry_none {s : State} (h : ∀ a, padName (algName a) ≠ nameOperand s) : matchingEntry s = none := by
  unfold matchingEntry
  rw [List.find?_eq_none]
  intro a _
  simp [h a]

/-- The prologue leaves the name operand alone. -/
@[simp] theorem matchingEntry_begin (w : Word) (s : State) : matchingEntry (beginCommand w s) = matchingEntry s := rfl

/-- What `SELECT` does on a ready engine (R131, R132). -/
theorem execSelect_ready {s : State} (h : s.status.halt = false) :
    execSelect s = .next (match matchingEntry s with
      | some a => endCommand false .ok (selectEntry a (beginCommand (commandWord 0x02#8 0#8 0#16) s))
      | none => endCommand false .unknownAlg (beginCommand (commandWord 0x02#8 0#8 0#16) s)) := by
  unfold execSelect selectBody
  rw [runCommand_ready h, matchingEntry_begin]
  cases matchingEntry s <;> rfl

/-- What `LIST` does on a ready engine (R137, R138). -/
theorem execList_ready {s : State} (h : s.status.halt = false) (idx : BitVec 8) :
    execList idx s = .next (match allAlgs[idx.toNat]? with
      | some a => endCommand false .ok (listEntry idx a (beginCommand (commandWord 0x04#8 idx 0#16) s))
      | none => endCommand false .listRange (beginCommand (commandWord 0x04#8 idx 0#16) s)) := by
  unfold execList listBody
  rw [runCommand_ready h]
  cases allAlgs[idx.toNat]? <;> rfl

end Sys2Proof.Machine
end

