-- ==== Sys2Proof/Laws/Sequencer.lean ====
section
/-! SUPPORT. What a step in the kernel phase can do, and the key of the row it fetches (R98, R234, R300). -/

namespace Sys2Proof.Machine

/-- The completion of a kernel pass: a next state gets the epilogue, a stop stays (R234). -/
theorem completeKernel_eq (o : Host.Outcome State Fault Refusal) :
    completeKernel o =
      match o with
      | .next t =>
        .next { t with
          sp := ⟨.idle, 0, 0⟩, cmd := 0
          status := ⟨false, true, t.status.halt, decide (t.warnCount ≠ 0), .ok⟩ }
      | other => other := by
  cases o with
  | next t =>
    simp only [completeKernel, endCommand, Status.ended, ResultCode.fatal, ScanPtr.home, Bool.or_false]
    simp
  | fault _ => rfl
  | refused _ => rfl

/-- A step in the kernel phase runs the row its key decodes to and completes the command (R300). -/
theorem step_kernelRow {s : State} {i : Instr} (h : s.sp.phase = .kern)
    (hd : decode (.kernel (pendingKey s)) = .ok i) : step s = completeKernel (exec i s) := by
  rw [step_kern h]; unfold kernelStep; split <;> simp_all

/-- The key fetched under an 8-bit Bayer word placed by `placeKernel` is the slot of depth 8 (R98). -/
theorem pendingKey_d8 {s : State} (h : s.cmd = 0x00006001#32) : pendingKey s = kernelKey s.sel8 .d8 := by
  have hd : flightDepth s = .d8 := by unfold flightDepth flightFormat flightArg; rw [h]; decide
  rw [pendingKey, hd]; rfl

@[inherit_doc pendingKey_d8]
theorem pendingKey_d10 {s : State} (h : s.cmd = 0x00006801#32) : pendingKey s = kernelKey s.sel10 .d10 := by
  have hd : flightDepth s = .d10 := by unfold flightDepth flightFormat flightArg; rw [h]; decide
  rw [pendingKey, hd]; rfl

end Sys2Proof.Machine
end

