-- ==== Sys2Proof/Tests/Slice0.lean ====
section
/-! SUPPORT. Tests: words of the spec decode to their instructions, the worked examples of the rules and of
spec/95_test_vectors.md, and for every statement with hypotheses a concrete state that meets them. -/

namespace Sys2Proof.Tests

open Sys2Proof Sys2Proof.Machine

/-! ### Helpers -/

/-- The bytes of a list from address 0. -/
def image (l : List Nat) : Memory := l.zipIdx.map fun p => (p.2, BitVec.ofNat 8 p.1)

/-- The reset state with a geometry, the two lengths and an image in `RAW`. -/
def ready (w h st rl gl : Nat) (l : List Nat) : State :=
  { State.reset with
    width := BitVec.ofNat 32 w, height := BitVec.ofNat 32 h, stride := BitVec.ofNat 32 st
    rawLen := BitVec.ofNat 32 rl, rgbLen := BitVec.ofNat 32 gl, raw := image l }

/-- The first `n` bytes of `RGB` after an outcome. -/
def outBytes (n : Nat) (o : Host.Outcome State Fault Refusal) : List Nat :=
  match o with
  | .next t => (List.range n).map fun a => (readRgb t a).toNat
  | .fault _ | .refused _ => []

/-- The first `n` bytes of `RAW` after an outcome. -/
def rawBytes (n : Nat) (o : Host.Outcome State Fault Refusal) : List Nat :=
  match o with
  | .next t => (List.range n).map fun a => (readRaw t a).toNat
  | .fault _ | .refused _ => []

/-- `STATUS` as a number after an outcome. -/
def statusOf (o : Host.Outcome State Fault Refusal) : Option Nat :=
  match o with
  | .next t => some t.status.word.toNat
  | .fault _ | .refused _ => none

/-- The log after an outcome. -/
def logOf (o : Host.Outcome State Fault Refusal) : List (Nat × Nat × Nat × Nat) :=
  match o with
  | .next t => t.diag.map fun e => (e.code.code, e.x.toNat, e.y.toNat, e.value.toNat)
  | .fault _ | .refused _ => []

/-- A state whose host has one action pending. -/
def asked (op : HostOp) (s : State) : State := { s with port := [op] }

/-- A halted state (R328, R332). -/
def halted : State := { State.reset with status := ⟨false, true, true, false, .noKernel⟩, sel8 := 5#4, sel10 := 0xF#4 }

/-! ### Well-formedness -/

/-- 0x10 is a recognised tag, so no fallback row stands for it (R94, R101). -/
theorem test_wellFormed_refuses_fallback : (Instr.fallback 0x10#8).wellFormed = false := by decide

theorem test_wellFormed_accepts_fallback : (Instr.fallback 0x00#8).wellFormed = true := by decide

/-! ### Decoding: every row's word written out (R94, R96, R98) -/

theorem test_decode_yuyv : decode (.command 0x00001001#32) = .ok .yuyv := by decide
theorem test_decode_uyvy : decode (.command 0x00001101#32) = .ok .uyvy := by decide
theorem test_decode_nv12 : decode (.command 0x00002001#32) = .ok .nv12 := by decide
theorem test_decode_nv21 : decode (.command 0x00002101#32) = .ok .nv21 := by decide
theorem test_decode_nv16 : decode (.command 0x00002201#32) = .ok .nv16 := by decide
theorem test_decode_yuv411p : decode (.command 0x00003001#32) = .ok .yuv411p := by decide
theorem test_decode_yvu411p : decode (.command 0x00003101#32) = .ok .yvu411p := by decide
theorem test_decode_yuv420p : decode (.command 0x00003201#32) = .ok .yuv420p := by decide
theorem test_decode_yvu420p : decode (.command 0x00003301#32) = .ok .yvu420p := by decide
theorem test_decode_yuv422p : decode (.command 0x00003401#32) = .ok .yuv422p := by decide
theorem test_decode_yvu422p : decode (.command 0x00003501#32) = .ok .yvu422p := by decide
theorem test_decode_yuv444p : decode (.command 0x00003601#32) = .ok .yuv444p := by decide
theorem test_decode_yvu444p : decode (.command 0x00003701#32) = .ok .yvu444p := by decide
theorem test_decode_grey8 : decode (.command 0x00004001#32) = .ok .grey8 := by decide
theorem test_decode_y10 : decode (.command 0x00004101#32) = .ok .y10 := by decide
theorem test_decode_y12 : decode (.command 0x00004201#32) = .ok .y12 := by decide
theorem test_decode_rgb332 : decode (.command 0x00005001#32) = .ok .rgb332 := by decide
theorem test_decode_rgb555 : decode (.command 0x00005101#32) = .ok .rgb555 := by decide
theorem test_decode_rgb565 : decode (.command 0x00005201#32) = .ok .rgb565 := by decide
theorem test_decode_rgb555x : decode (.command 0x00005301#32) = .ok .rgb555x := by decide
theorem test_decode_rgb565x : decode (.command 0x00005401#32) = .ok .rgb565x := by decide
theorem test_decode_bgr24 : decode (.command 0x00005501#32) = .ok .bgr24 := by decide
theorem test_decode_rgb24 : decode (.command 0x00005601#32) = .ok .rgb24 := by decide
theorem test_decode_bgr32 : decode (.command 0x00005701#32) = .ok .bgr32 := by decide
theorem test_decode_rgb32 : decode (.command 0x00005801#32) = .ok .rgb32 := by decide
theorem test_decode_sgrbg8 : decode (.command 0x00006001#32) = .ok .sgrbg8 := by decide
theorem test_decode_srggb8 : decode (.command 0x00006101#32) = .ok .srggb8 := by decide
theorem test_decode_sbggr8 : decode (.command 0x00006201#32) = .ok .sbggr8 := by decide
theorem test_decode_sgbrg8 : decode (.command 0x00006301#32) = .ok .sgbrg8 := by decide
theorem test_decode_sgrbg10 : decode (.command 0x00006801#32) = .ok .sgrbg10 := by decide
theorem test_decode_srggb10 : decode (.command 0x00006901#32) = .ok .srggb10 := by decide
theorem test_decode_sbggr10 : decode (.command 0x00006A01#32) = .ok .sbggr10 := by decide
theorem test_decode_sgbrg10 : decode (.command 0x00006B01#32) = .ok .sgbrg10 := by decide
theorem test_decode_cottnoip8 : decode (.kernel 0b00000#5) = .ok .cottnoip8 := by decide
theorem test_decode_cottnoip10 : decode (.kernel 0b10000#5) = .ok .cottnoip10 := by decide
theorem test_decode_cott8 : decode (.kernel 0b00001#5) = .ok .cott8 := by decide
theorem test_decode_horip8 : decode (.kernel 0b00010#5) = .ok .horip8 := by decide
theorem test_decode_ip8 : decode (.kernel 0b00011#5) = .ok .ip8 := by decide
theorem test_decode_gptm8 : decode (.kernel 0b00100#5) = .ok .gptm8 := by decide
theorem test_decode_gptm10 : decode (.kernel 0b10100#5) = .ok .gptm10 := by decide
theorem test_decode_gptmFast8 : decode (.kernel 0b00101#5) = .ok .gptmFast8 := by decide
theorem test_decode_fallback : decode (.command 0x0000FF01#32) = .ok (.fallback 0xFF#8) := by decide
theorem test_decode_select : decode (.command 0x00000002#32) = .ok .select := by decide
theorem test_decode_setsharp : decode (.command 0xFFFF0003#32) = .ok (.setsharp 0xFFFF#16) := by decide
theorem test_decode_list : decode (.command 0x0000FF04#32) = .ok (.list 0xFF#8) := by decide

/-- Illegal words of spec/95 part 3 (R100). -/
theorem test_decode_illegal :
    decode (.command 0x00000000#32) = .error .unknownOpcode ∧
      decode (.command 0x00000005#32) = .error .unknownOpcode ∧
      decode (.command 0x00010001#32) = .error .immNotZero ∧ decode (.command 0x00000102#32) = .error .argNotZero ∧
      decode (.command 0x01000002#32) = .error .immNotZero ∧ decode (.command 0x00000103#32) = .error .argNotZero ∧
      decode (.command 0x00010004#32) = .error .immNotZero := by decide

/-- A placed word is the next instruction, also as the first after reset (R361: `E_GEOMETRY`). -/
theorem test_first_after_reset : statusOf (step (State.reset.withFetchWord 32 0x1001)) = some 0x22 := by decide

theorem test_placed_kernel : statusOf (step (State.reset.withFetchWord 5 0x14)) = some 0x02 := by decide

/-! ### The memories -/

theorem test_reset_memory_form : Memory.wf State.reset.raw ∧ Memory.wf State.reset.rgb := by decide

theorem test_write_keeps_form :
    memStore (memStore (memStore [] 7 1#8) 3 2#8) 7 3#8 = [(3, 2#8), (7, 3#8)] := by decide

/-! ### The instructions on the examples of their rules -/

/-- R251 -/
theorem test_yuyv :
    outBytes 6 (exec .yuyv (ready 2 1 4 4 6 [81, 90, 145, 240])) = [255, 0, 0, 255, 74, 74] := by decide
/-- R252 -/
theorem test_uyvy :
    outBytes 6 (exec .uyvy (ready 2 1 4 4 6 [90, 81, 240, 145])) = [255, 0, 0, 255, 74, 74] := by decide
/-- R253 -/
theorem test_nv12 :
    outBytes 12 (exec .nv12 (ready 2 2 2 6 12 [81, 145, 41, 16, 90, 240])) =
      [255, 0, 0, 255, 74, 74, 208, 0, 0, 179, 0, 0] := by decide
/-- R254 -/
theorem test_nv21 :
    outBytes 12 (exec .nv21 (ready 2 2 2 6 12 [81, 145, 41, 16, 240, 90])) =
      [255, 0, 0, 255, 74, 74, 208, 0, 0, 179, 0, 0] := by decide
/-- R255 -/
theorem test_nv16 :
    outBytes 6 (exec .nv16 (ready 2 1 2 4 6 [81, 145, 90, 240])) = [255, 0, 0, 255, 74, 74] := by decide
/-- R256 -/
theorem test_yuv411p :
    outBytes 12 (exec .yuv411p (ready 4 1 4 6 12 [81, 145, 41, 16, 90, 240])) =
      [255, 0, 0, 255, 74, 74, 208, 0, 0, 179, 0, 0] := by decide
/-- R257 -/
theorem test_yvu411p :
    outBytes 12 (exec .yvu411p (ready 4 1 4 6 12 [81, 145, 41, 16, 240, 90])) =
      [255, 0, 0, 255, 74, 74, 208, 0, 0, 179, 0, 0] := by decide
/-- R258 -/
theorem test_yuv420p :
    outBytes 12 (exec .yuv420p (ready 2 2 2 6 12 [81, 145, 41, 16, 90, 240])) =
      [255, 0, 0, 255, 74, 74, 208, 0, 0, 179, 0, 0] := by decide
/-- R259 -/
theorem test_yvu420p :
    outBytes 12 (exec .yvu420p (ready 2 2 2 6 12 [81, 145, 41, 16, 240, 90])) =
      [255, 0, 0, 255, 74, 74, 208, 0, 0, 179, 0, 0] := by decide
/-- R260 -/
theorem test_yuv422p :
    outBytes 6 (exec .yuv422p (ready 2 1 2 4 6 [81, 145, 90, 240])) = [255, 0, 0, 255, 74, 74] := by decide
/-- R261 -/
theorem test_yvu422p :
    outBytes 6 (exec .yvu422p (ready 2 1 2 4 6 [81, 145, 240, 90])) = [255, 0, 0, 255, 74, 74] := by decide
/-- R262 -/
theorem test_yuv444p : outBytes 3 (exec .yuv444p (ready 1 1 1 3 3 [41, 240, 110])) = [0, 0, 255] := by decide
/-- R263 -/
theorem test_yvu444p : outBytes 3 (exec .yvu444p (ready 1 1 1 3 3 [41, 110, 240])) = [0, 0, 255] := by decide
/-- R281 -/
theorem test_grey8 : outBytes 3 (exec .grey8 (ready 1 1 1 1 3 [0x7B])) = [123, 123, 123] := by decide
/-- R282: the second sample is clamped -/
theorem test_y10 :
    outBytes 6 (exec .y10 (ready 2 1 4 4 6 [0x00, 0x02, 0x00, 0x04])) = [128, 128, 128, 255, 255, 255] := by decide
/-- R283: the second sample is clamped -/
theorem test_y12 :
    outBytes 6 (exec .y12 (ready 2 1 4 4 6 [0x00, 0x08, 0x00, 0x10])) = [128, 128, 128, 255, 255, 255] := by decide
/-- R284 -/
theorem test_rgb332 : outBytes 6 (exec .rgb332 (ready 2 1 2 2 6 [0xE0, 0x03])) = [224, 0, 0, 0, 0, 192] := by decide
/-- R285 -/
theorem test_rgb555 :
    outBytes 6 (exec .rgb555 (ready 2 1 4 4 6 [0x00, 0x7C, 0xFF, 0xFF])) = [248, 0, 0, 248, 248, 248] := by decide
/-- R286 -/
theorem test_rgb565 :
    outBytes 6 (exec .rgb565 (ready 2 1 4 4 6 [0xE0, 0x07, 0x1F, 0x00])) = [0, 252, 0, 0, 0, 248] := by decide
/-- R287 -/
theorem test_rgb555x : outBytes 3 (exec .rgb555x (ready 1 1 2 2 3 [0x7C, 0x00])) = [248, 0, 0] := by decide
/-- R288 -/
theorem test_rgb565x : outBytes 3 (exec .rgb565x (ready 1 1 2 2 3 [0x07, 0xE0])) = [0, 252, 0] := by decide
/-- R289 -/
theorem test_bgr24 : outBytes 3 (exec .bgr24 (ready 1 1 3 3 3 [0x10, 0x20, 0x30])) = [0x30, 0x20, 0x10] := by decide
/-- R289 with `SWAP_RB` -/
theorem test_bgr24_swapped :
    outBytes 3 (exec .bgr24 { ready 1 1 3 3 3 [0x10, 0x20, 0x30] with ctrl := 1 }) = [0x10, 0x20, 0x30] := by decide
/-- R290 -/
theorem test_rgb24 : outBytes 3 (exec .rgb24 (ready 1 1 3 3 3 [0x10, 0x20, 0x30])) = [0x10, 0x20, 0x30] := by decide
/-- R291 -/
theorem test_bgr32 :
    outBytes 3 (exec .bgr32 (ready 1 1 4 4 3 [0x10, 0x20, 0x30, 0xFF])) = [0x30, 0x20, 0x10] := by decide
/-- R292 -/
theorem test_rgb32 :
    outBytes 3 (exec .rgb32 (ready 1 1 4 4 3 [0xFF, 0x10, 0x20, 0x30])) = [0x10, 0x20, 0x30] := by decide
/-- R224 -/
theorem test_fallback :
    (fun o => (statusOf o, logOf o, outBytes 6 o)) (exec (.fallback 0) (ready 2 1 4 4 6 [81, 90, 145, 240])) =
      (some 0x0A, [(2, 0, 0, 0)], [255, 0, 0, 255, 74, 74]) := by decide
/-- spec/95 part 4.1: `gptm` after reset -/
theorem test_sgrbg8 :
    outBytes 12 (exec .sgrbg8 (ready 2 2 2 4 12 [11, 22, 33, 44])) =
      [0, 11, 0, 22, 28, 33, 22, 28, 33, 96, 44, 116] := by decide
/-- R303: 200 * 1.5 is clamped, 3 * 384 / 256 is 4 -/
theorem test_sgrbg8_bright :
    rawBytes 4 (exec .sgrbg8 { ready 2 2 2 4 12 [200, 100, 3, 0] with brightness := 0x180 }) =
      [255, 150, 4, 0] := by decide
/-- R301 and the image of `SGRBG8` -/
theorem test_srggb8 :
    (fun o => (statusOf o, logOf o, outBytes 12 o)) (exec .srggb8 (ready 2 2 2 4 12 [11, 22, 33, 44])) =
      (some 0x0A, [(3, 0, 0, 0x61)], [0, 11, 0, 22, 28, 33, 22, 28, 33, 96, 44, 116]) := by decide
/-- R301 and the image of `SGRBG8` -/
theorem test_sbggr8 :
    (fun o => (statusOf o, logOf o, outBytes 12 o)) (exec .sbggr8 (ready 2 2 2 4 12 [11, 22, 33, 44])) =
      (some 0x0A, [(3, 0, 0, 0x62)], [0, 11, 0, 22, 28, 33, 22, 28, 33, 96, 44, 116]) := by decide
/-- R301 and the image of `SGRBG8` -/
theorem test_sgbrg8 :
    (fun o => (statusOf o, logOf o, outBytes 12 o)) (exec .sgbrg8 (ready 2 2 2 4 12 [11, 22, 33, 44])) =
      (some 0x0A, [(3, 0, 0, 0x63)], [0, 11, 0, 22, 28, 33, 22, 28, 33, 96, 44, 116]) := by decide
/-- R303, R304: 1024 is warned of and clamped -/
theorem test_sgrbg10 :
    (fun o => (statusOf o, logOf o, rawBytes 8 o)) (exec .sgrbg10 (ready 2 2 4 8 12 [0, 4, 0, 2, 3, 0, 0xFF, 3])) =
      (some 0x0A, [(1, 0, 0, 1024)], [0xFF, 3, 0, 2, 3, 0, 0xFF, 3]) := by decide
/-- R303 with `HIGH_BITS` -/
theorem test_sgrbg10_high :
    rawBytes 2 (exec .sgrbg10 { ready 2 2 4 8 12 [0xC0, 0xFF, 0, 0, 0, 0, 0, 0] with ctrl := 2 }) =
      [0xFF, 3] := by decide
/-- R301, R304: the phase warning first -/
theorem test_srggb10 :
    logOf (exec .srggb10 (ready 2 2 4 8 12 [0, 0, 0, 8, 0, 0, 0, 0])) =
      [(3, 0, 0, 0x69), (1, 1, 0, 2048)] := by decide
/-- R301, R304: the phase warning first -/
theorem test_sbggr10 :
    logOf (exec .sbggr10 (ready 2 2 4 8 12 [0, 0, 0, 8, 0, 0, 0, 0])) =
      [(3, 0, 0, 0x6a), (1, 1, 0, 2048)] := by decide
/-- R301, R304: the phase warning first -/
theorem test_sgbrg10 :
    logOf (exec .sgbrg10 (ready 2 2 4 8 12 [0, 0, 0, 8, 0, 0, 0, 0])) =
      [(3, 0, 0, 0x6b), (1, 1, 0, 2048)] := by decide
/-- R131: `ip`. -/
theorem test_select :
    (match exec .select { State.reset with name0 := 0x7069 } with
      | .next t => (t.sel8, t.sel10, t.status.word)
      | .fault _ | .refused _ => (0, 0, 0)) = (3#4, 0xF#4, 0x02#32) := by decide
/-- R132: `IP`. -/
theorem test_select_unknown : statusOf (exec .select { State.reset with name0 := 0x5049 }) = some 0x12 := by decide
/-- R135. -/
theorem test_setsharp :
    (match exec (.setsharp 0x5A83) State.reset with
      | .next t => t.sharpness
      | .fault _ | .refused _ => 0) = 23171#16 := by decide
/-- R137: `gptm_fast`. -/
theorem test_list :
    (match exec (.list 5) State.reset with
      | .next t => (t.lname0, t.lname1, t.lname2, t.lname3, t.lflags)
      | .fault _ | .refused _ => (0, 0, 0, 0, 0)) =
      (0x6D747067#32, 0x7361665F#32, 0x00000074#32, 0#32, 0x0501#16) := by decide
/-- R138. -/
theorem test_list_range : statusOf (exec (.list 6) State.reset) = some 0x62 := by decide

/-- spec/95 part 4.1 -/
theorem test_cottnoip8 :
    outBytes 12 (exec .cottnoip8 (ready 2 2 2 4 12 [11, 22, 33, 44])) =
      [22, 11, 33, 22, 11, 33, 22, 44, 33, 22, 44, 33] := by decide
/-- spec/95 part 4.1 -/
theorem test_cott8 :
    outBytes 12 (exec .cott8 (ready 2 2 2 4 12 [11, 22, 33, 44])) =
      [22, 28, 33, 22, 28, 33, 22, 28, 33, 22, 28, 33] := by decide
/-- spec/95 part 4.1 -/
theorem test_horip8 :
    outBytes 12 (exec .horip8 (ready 2 2 2 4 12 [11, 22, 33, 44])) =
      [22, 11, 33, 22, 11, 33, 22, 44, 33, 22, 44, 33] := by decide
/-- spec/95 part 4.1 -/
theorem test_ip8 :
    outBytes 12 (exec .ip8 (ready 2 2 2 4 12 [11, 22, 33, 44])) =
      [22, 11, 33, 22, 28, 33, 22, 28, 33, 22, 44, 33] := by decide
/-- spec/95 part 4.1 -/
theorem test_gptm8 :
    outBytes 12 (exec .gptm8 (ready 2 2 2 4 12 [11, 22, 33, 44])) =
      [0, 11, 0, 22, 28, 33, 22, 28, 33, 96, 44, 116] := by decide
/-- spec/95 part 4.1 -/
theorem test_gptmFast8 :
    outBytes 12 (exec .gptmFast8 (ready 2 2 2 4 12 [11, 22, 33, 44])) =
      [3, 11, 12, 22, 28, 33, 22, 28, 33, 41, 44, 54] := by decide
/-- R157 -/
theorem test_cottnoip10 :
    outBytes 3 (exec .cottnoip10 (ready 2 2 4 8 12 [0xFF, 3, 0, 2, 3, 0, 0, 0])) = [128, 255, 0] := by decide
/-- spec/95 part 4.4, first row -/
theorem test_gptm10 :
    outBytes 12 (exec .gptm10
      (ready 4 4 8 32 48 [100, 0, 200, 0, 44, 1, 144, 1, 244, 1, 88, 2, 188, 2, 32, 3,
        132, 3, 232, 3, 255, 3, 0, 0, 50, 0, 150, 0, 250, 0, 94, 1])) =
      [0, 25, 0, 50, 0, 0, 0, 75, 0, 100, 255, 255] := by decide
/-- spec/95 part 4.2, first row -/
theorem test_horip8_ramp :
    outBytes 12 (exec .horip8 (ready 4 4 4 16 48
      [10, 20, 30, 40, 50, 60, 70, 80, 90, 100, 110, 120, 130, 140, 150, 160])) =
      [20, 10, 50, 20, 20, 60, 30, 30, 70, 40, 30, 70] := by decide
/-- spec/95 part 4.2, first row -/
theorem test_ip8_ramp :
    outBytes 12 (exec .ip8 (ready 4 4 4 16 48
      [10, 20, 30, 40, 50, 60, 70, 80, 90, 100, 110, 120, 130, 140, 150, 160])) =
      [20, 10, 50, 20, 40, 60, 30, 30, 70, 40, 55, 70] := by decide

/-! ### Traps (spec/95 part 5) -/

theorem test_geometry_error : statusOf (exec .nv12 (ready 2 3 2 64 64 [])) = some 0x22 := by decide

theorem test_buffer_error : statusOf (exec .yuyv (ready 2 1 4 3 6 [])) = some 0x32 := by decide

/-- R328: the engine halts. -/
theorem test_no_kernel : statusOf (exec .sgrbg10 { ready 2 2 4 8 12 [] with sel10 := 0xF }) = some 0x46 := by decide

/-- R333: the recoverable causes come first. -/
theorem test_priority : statusOf (exec .sgrbg10 { ready 2 2 4 8 0 [] with sel10 := 0xF }) = some 0x32 := by decide

/-! ### The hypotheses of the statements are met -/

theorem witness_EncodeDecodeAgree : (Instr.fallback 0xFF#8).wellFormed = true := by decide

theorem witness_DecodeEncodeAgree :
    decode (.command 0x00000001#32) = .ok (.fallback 0#8) ∧ decode (.kernel 0x05#5) = .ok .gptmFast8 :=
  by decide

theorem witness_LegalWordsExactly_illegal :
    ¬LegalWord 0x00000000#32 ∧ ¬LegalWord 0x00010001#32 ∧ ¬LegalWord 0x00000102#32 ∧
      ¬LegalWord 0x00000103#32 ∧ ¬LegalWord 0x00010004#32 ∧ ¬LegalWord 0x00000005#32 :=
  by unfold LegalWord; decide

theorem witness_LegalWordsExactly_decode :
    LegalWord 0x00001001#32 ∧ (0x00001001#32).toNat % 256 = 1 ∧
      Format.yuyv.tag.toNat = (0x00001001#32).toNat / 256 % 256 :=
  by unfold LegalWord; decide

theorem witness_LegalWordsExactly_fallback :
    LegalWord 0x0000FF01#32 ∧ (0x0000FF01#32).toNat % 256 = 1 ∧
      ∀ f : Format, f.tag.toNat ≠ (0x0000FF01#32).toNat / 256 % 256 :=
  ⟨by unfold LegalWord; decide, by decide, by intro f; cases f <;> decide⟩

theorem witness_LegalWordsExactly_others :
    LegalWord 0x00000002#32 ∧ LegalWord 0x00000003#32 ∧ LegalWord 0xFFFF0003#32 ∧ LegalWord 0x00000004#32 ∧
      LegalWord 0x0000FF04#32 :=
  by unfold LegalWord; decide

theorem witness_StepRunsCommand :
    (asked (.regWrite 0 0x00001001#32) State.reset).sp.phase = .idle ∧
      (asked (.regWrite 0 0x00001001#32) State.reset).port = [.regWrite 0 0x00001001#32] ∧
      decode (.command 0x00001001#32) = .ok .yuyv :=
  by decide

theorem witness_StepRunsKernel_8 :
    (State.reset.withFetchWord 5 0x04).sp.phase = .kern ∧
      (State.reset.withFetchWord 5 0x04).cmd.toNat = 1 + 256 * Format.sgrbg8.tag.toNat ∧
      bayerTag .sgrbg8 = some (.d8, .grbg) ∧ (State.reset.withFetchWord 5 0x04).sel8 = Alg.gptm.id ∧
      kernelInstr .gptm .d8 = some .gptm8 :=
  by decide

theorem witness_StepRunsKernel_10 :
    (State.reset.withFetchWord 5 0x10).sp.phase = .kern ∧
      (State.reset.withFetchWord 5 0x10).cmd.toNat = 1 + 256 * Format.sgrbg10.tag.toNat ∧
      bayerTag .sgrbg10 = some (.d10, .grbg) ∧ (State.reset.withFetchWord 5 0x10).sel10 = Alg.cottnoip.id ∧
      kernelInstr .cottnoip .d10 = some .cottnoip10 :=
  by decide

theorem witness_PlacedWordRuns_command :
    8 < 32 ∧ decodeTableWord 32 0x1001 = some .yuyv ∧ 8 < 9 ∧ decodeTableWord 9 0x02 = some .select :=
  by decide

theorem witness_PlacedWordRuns_kernel :
    5 ≤ 8 ∧ decodeTableWord 5 0x05 = some .gptmFast8 ∧ 8 ≤ 8 ∧ decodeTableWord 8 0x10 = some .cottnoip10 :=
  by decide

theorem witness_IdleStays : State.reset.sp.phase = .idle ∧ State.reset.port = [] := by decide

theorem witness_CommandEnds :
    (asked (.regWrite 0 0#32) State.reset).sp.phase = .idle ∧
      (asked (.regWrite 0 0#32) State.reset).status.halt = false ∧
      (asked (.regWrite 0 0#32) State.reset).port = [.regWrite 0 0#32] :=
  by decide

theorem witness_HaltedWritesIgnored_register :
    (asked (.regWrite 0 0x02#32) halted).status.halt = true ∧
      (asked (.regWrite 0 0x02#32) halted).sp.phase = .idle ∧
      (asked (.regWrite 0 0x02#32) halted).port = [.regWrite 0 0x02#32] :=
  by decide

theorem witness_HaltedWritesIgnored_decode :
    halted.status.halt = true ∧ DecodesAs .sgrbg8 .sgrbg8 :=
  ⟨by decide, .inl rfl⟩

theorem witness_HaltedWritesIgnored_memory :
    (asked (.rawWrite 0xFFFFFFFE#32 7#8) halted).status.halt = true ∧
      (asked (.rawWrite 0xFFFFFFFE#32 7#8) halted).sp.phase = .idle ∧
      (asked (.rawWrite 0xFFFFFFFE#32 7#8) halted).port = [.rawWrite 0xFFFFFFFE#32 7#8] ∧
      (0xFFFFFFFE#32).toNat < (asked (.rawWrite 0xFFFFFFFE#32 7#8) halted).rawSize.toNat :=
  by decide

theorem witness_RstRestores : (asked .rst halted).sp.phase = .idle ∧ (asked .rst halted).port = [.rst] := by decide

theorem witness_RegisterReads :
    (asked (.regRead 31#5) halted).sp.phase = .idle ∧ (asked (.regRead 31#5) halted).port = [.regRead 31#5] :=
  by decide

theorem witness_RegisterWrites_1 :
    (asked (.regWrite 1#5 0xFFFFFFFF#32) State.reset).sp.phase = .idle ∧
      (asked (.regWrite 1#5 0xFFFFFFFF#32) State.reset).status.halt = false ∧
      1#5 ≠ 0 ∧ (asked (.regWrite 1#5 0xFFFFFFFF#32) State.reset).port = [.regWrite 1#5 0xFFFFFFFF#32] :=
  by decide

theorem witness_RegisterWrites_2 :
    (asked (.regWrite 2#5 0xFFFFFFFF#32) State.reset).sp.phase = .idle ∧
      (asked (.regWrite 2#5 0xFFFFFFFF#32) State.reset).status.halt = false ∧
      2#5 ≠ 0 ∧ (asked (.regWrite 2#5 0xFFFFFFFF#32) State.reset).port = [.regWrite 2#5 0xFFFFFFFF#32] :=
  by decide

theorem witness_RegisterWrites_15 :
    (asked (.regWrite 15#5 0xFFFFFFFF#32) State.reset).sp.phase = .idle ∧
      (asked (.regWrite 15#5 0xFFFFFFFF#32) State.reset).status.halt = false ∧
      15#5 ≠ 0 ∧ (asked (.regWrite 15#5 0xFFFFFFFF#32) State.reset).port = [.regWrite 15#5 0xFFFFFFFF#32] :=
  by decide

theorem witness_HostMemory_rawWrite :
    (asked (.rawWrite 0xFFFFFFFE#32 9#8) halted).sp.phase = .idle ∧
      (0xFFFFFFFE#32).toNat < (asked (.rawWrite 0xFFFFFFFE#32 9#8) halted).rawSize.toNat ∧
      (asked (.rawWrite 0xFFFFFFFE#32 9#8) halted).port = [.rawWrite 0xFFFFFFFE#32 9#8] :=
  by decide

theorem witness_HostOutsideFaults_rawWrite :
    (asked (.rawWrite 0xFFFFFFFF#32 9#8) State.reset).sp.phase = .idle ∧
      (asked (.rawWrite 0xFFFFFFFF#32 9#8) State.reset).rawSize.toNat ≤ (0xFFFFFFFF#32).toNat ∧
      (asked (.rawWrite 0xFFFFFFFF#32 9#8) State.reset).port = [.rawWrite 0xFFFFFFFF#32 9#8] :=
  by decide

theorem witness_HostMemory_rawRead :
    (asked (.rawRead 0xFFFFFFFE#32) halted).sp.phase = .idle ∧
      (0xFFFFFFFE#32).toNat < (asked (.rawRead 0xFFFFFFFE#32) halted).rawSize.toNat ∧
      (asked (.rawRead 0xFFFFFFFE#32) halted).port = [.rawRead 0xFFFFFFFE#32] :=
  by decide

theorem witness_HostOutsideFaults_rawRead :
    (asked (.rawRead 0xFFFFFFFF#32) State.reset).sp.phase = .idle ∧
      (asked (.rawRead 0xFFFFFFFF#32) State.reset).rawSize.toNat ≤ (0xFFFFFFFF#32).toNat ∧
      (asked (.rawRead 0xFFFFFFFF#32) State.reset).port = [.rawRead 0xFFFFFFFF#32] :=
  by decide

theorem witness_HostMemory_rgbWrite :
    (asked (.rgbWrite 0xFFFFFFFE#32 9#8) halted).sp.phase = .idle ∧
      (0xFFFFFFFE#32).toNat < (asked (.rgbWrite 0xFFFFFFFE#32 9#8) halted).rgbSize.toNat ∧
      (asked (.rgbWrite 0xFFFFFFFE#32 9#8) halted).port = [.rgbWrite 0xFFFFFFFE#32 9#8] :=
  by decide

theorem witness_HostOutsideFaults_rgbWrite :
    (asked (.rgbWrite 0xFFFFFFFF#32 9#8) State.reset).sp.phase = .idle ∧
      (asked (.rgbWrite 0xFFFFFFFF#32 9#8) State.reset).rgbSize.toNat ≤ (0xFFFFFFFF#32).toNat ∧
      (asked (.rgbWrite 0xFFFFFFFF#32 9#8) State.reset).port = [.rgbWrite 0xFFFFFFFF#32 9#8] :=
  by decide

theorem witness_HostMemory_rgbRead :
    (asked (.rgbRead 0xFFFFFFFE#32) halted).sp.phase = .idle ∧
      (0xFFFFFFFE#32).toNat < (asked (.rgbRead 0xFFFFFFFE#32) halted).rgbSize.toNat ∧
      (asked (.rgbRead 0xFFFFFFFE#32) halted).port = [.rgbRead 0xFFFFFFFE#32] :=
  by decide

theorem witness_HostOutsideFaults_rgbRead :
    (asked (.rgbRead 0xFFFFFFFF#32) State.reset).sp.phase = .idle ∧
      (asked (.rgbRead 0xFFFFFFFF#32) State.reset).rgbSize.toNat ≤ (0xFFFFFFFF#32).toNat ∧
      (asked (.rgbRead 0xFFFFFFFF#32) State.reset).port = [.rgbRead 0xFFFFFFFF#32] :=
  by decide

theorem witness_IllegalWordEnds :
    (asked (.regWrite 0 0x00000005#32) State.reset).sp.phase = .idle ∧
      (asked (.regWrite 0 0x00000005#32) State.reset).status.halt = false ∧
      (asked (.regWrite 0 0x00000005#32) State.reset).port = [.regWrite 0 0x00000005#32] ∧ ¬LegalWord 0x00000005#32 :=
  by unfold LegalWord; decide

/-- The reset state with a name in `NAME0` .. `NAME2`. -/
def named (n0 n1 n2 : Word) : State :=
  { State.reset with name0 := n0, name1 := n1, name2 := n2 }

/-- The rows of `SelectKnownName`. -/
def selectRows : List (Word × Word × Word × BitVec 4 × BitVec 4) :=
  [(0x74746F63#32, 0x70696F6E#32, 0#32, 0#4, 0#4), (0x74746F63#32, 0#32, 0#32, 1#4, 0xF#4),
   (0x69726F68#32, 0x00000070#32, 0#32, 2#4, 0xF#4), (0x00007069#32, 0#32, 0#32, 3#4, 0xF#4),
   (0x6D747067#32, 0#32, 0#32, 4#4, 4#4), (0x6D747067#32, 0x7361665F#32, 0x00000074#32, 5#4, 0xF#4)]

/-- Every row of `SelectKnownName` is met by the state `named` of it. -/
theorem witness_SelectKnownName :
    ∀ r ∈ selectRows,
      let s := named r.1 r.2.1 r.2.2.1
      s.status.halt = false ∧ s.name0 = r.1 ∧ s.name1 = r.2.1 ∧ s.name2 = r.2.2.1 ∧ s.name3 = 0 :=
  fun _ _ => ⟨rfl, rfl, rfl, rfl, rfl⟩

/-- `gptm_fas`, one letter short. -/
theorem witness_SelectUnknownName :
    let s := named 0x6D747067#32 0x7361665F#32 0#32
    (s.name0, s.name1, s.name2, s.name3) ∉
      [(0x74746F63#32, 0x70696F6E#32, 0#32, 0#32), (0x74746F63#32, 0#32, 0#32, 0#32),
       (0x69726F68#32, 0x00000070#32, 0#32, 0#32), (0x00007069#32, 0#32, 0#32, 0#32),
       (0x6D747067#32, 0#32, 0#32, 0#32), (0x6D747067#32, 0x7361665F#32, 0x00000074#32, 0#32)] ∧
      s.status.halt = false :=
  by decide

theorem witness_SetSharpStores : State.reset.status.halt = false := by decide

/-- The rows of `ListEntries`. -/
def listRows : List (BitVec 8 × Word × Word × Word × Half) :=
  [(0#8, 0x74746F63#32, 0x70696F6E#32, 0#32, 0x0003#16), (1#8, 0x74746F63#32, 0#32, 0#32, 0x0101#16),
   (2#8, 0x69726F68#32, 0x00000070#32, 0#32, 0x0201#16), (3#8, 0x00007069#32, 0#32, 0#32, 0x0301#16),
   (4#8, 0x6D747067#32, 0#32, 0#32, 0x0403#16), (5#8, 0x6D747067#32, 0x7361665F#32, 0x00000074#32, 0x0501#16)]

/-- The reset state meets the hypotheses of each of the six rows. -/
theorem witness_ListEntries :
    listRows.map (fun r => r.1.toNat) = [0, 1, 2, 3, 4, 5] ∧ State.reset.status.halt = false :=
  by decide

theorem witness_ListOutOfRange : 6 ≤ (6#8).toNat ∧ 6 ≤ (255#8).toNat ∧ State.reset.status.halt = false := by decide

theorem witness_ConversionLaws : (16#8).toNat ≤ 16 ∧ 235 ≤ (235#8).toNat ∧ (0#8).toNat ≤ (255#8).toNat := by decide

theorem witness_DecodesPackedYuv :
    SinglePlane (ready 2 1 4 4 6 []) 2 ∧ (ready 2 1 4 4 6 []).width.toNat % 2 = 0 :=
  by decide

theorem witness_DecodesSemiPlanarYuv_420 :
    (ready 2 2 2 6 12 []).width.toNat % 2 = 0 ∧
      MultiPlane (ready 2 2 2 6 12 []) (2 * 2 + 2 * 2 / 2) ∧ (ready 2 2 2 6 12 []).height.toNat % 2 = 0 :=
  by decide

theorem witness_DecodesSemiPlanarYuv_422 :
    (ready 2 1 2 4 6 []).width.toNat % 2 = 0 ∧ MultiPlane (ready 2 1 2 4 6 []) (2 * 2 * 1) :=
  by decide

theorem witness_DecodesPlanar411And422_411 :
    MultiPlane (ready 4 1 4 6 12 []) (4 * 1 + 2 * (4 / 4) * 1) ∧ (ready 4 1 4 6 12 []).width.toNat % 4 = 0 :=
  by decide

theorem witness_DecodesPlanar411And422_422 :
    MultiPlane (ready 2 1 2 4 6 []) (2 * 1 + 2 * (2 / 2) * 1) ∧ (ready 2 1 2 4 6 []).width.toNat % 2 = 0 :=
  by decide

theorem witness_DecodesPlanar420And444_420 :
    MultiPlane (ready 2 2 2 6 12 []) (2 * 2 + 2 * (2 / 2) * (2 / 2)) ∧
      (ready 2 2 2 6 12 []).width.toNat % 2 = 0 ∧ (ready 2 2 2 6 12 []).height.toNat % 2 = 0 :=
  by decide

theorem witness_DecodesPlanar420And444_444 : MultiPlane (ready 1 1 1 3 3 []) (3 * 1 * 1) := by decide

theorem witness_DecodesMonochrome :
    SinglePlane (ready 1 1 1 1 3 []) 1 ∧ SinglePlane (ready 1 1 2 2 3 []) 2 :=
  by decide

theorem witness_DecodesNarrowRgb :
    SinglePlane (ready 3 2 5 8 18 []) 1 ∧ SinglePlane (ready 3 2 7 13 18 []) 2 :=
  by decide

theorem witness_DecodesWideRgb :
    SinglePlane (ready 1 1 3 3 3 []) 3 ∧ SinglePlane (ready 1 2 5 9 6 []) 4 :=
  by decide

theorem witness_DecodesFallback :
    (∀ f : Format, f.tag ≠ 0xFF#8) ∧ SinglePlane (ready 2 1 4 4 6 []) 2 ∧ (ready 2 1 4 4 6 []).width.toNat % 2 = 0 :=
  ⟨by intro f; cases f <;> decide, by decide, by decide⟩

theorem witness_DecodesBayer8 :
    (Instr.sgbrg8, [(⟨.cfaPhase, 0, 0, 0x63⟩ : DiagEntry)]) ∈
        [(Instr.sgrbg8, []), (.srggb8, [⟨.cfaPhase, 0, 0, 0x61⟩]), (.sbggr8, [⟨.cfaPhase, 0, 0, 0x62⟩]),
         (.sgbrg8, [⟨.cfaPhase, 0, 0, 0x63⟩])] ∧
      BayerPlane (ready 2 2 2 4 12 []) 1 ∧ (ready 2 2 2 4 12 []).sel8 = Alg.gptm.id :=
  by decide

theorem witness_DecodesBayer10_cottnoip :
    BayerPlane (ready 2 2 4 8 12 []) 2 ∧ (ready 2 2 4 8 12 []).sel10 = Alg.cottnoip.id :=
  by decide

/-- With `HIGH_BITS` set. -/
theorem witness_DecodesBayer10_gptm :
    BayerPlane { ready 2 2 4 8 12 [] with sel10 := 4#4, ctrl := 2 } 2 ∧
      ({ ready 2 2 4 8 12 [] with sel10 := 4#4, ctrl := 2 } : State).sel10 = Alg.gptm.id ∧
      ({ ready 2 2 4 8 12 [] with sel10 := 4#4, ctrl := 2 } : State).ctrl.getLsbD 1 = true :=
  by decide

theorem witness_BayerRunsKernelRow_8 :
    bayerTag .sgrbg8 = some (.d8, .grbg) ∧ (ready 2 2 2 4 12 []).status.halt = false ∧ ChecksPass .sgrbg8 (ready 2 2 2 4 12 []) ∧
      decode (.kernel (kernelKey (ready 2 2 2 4 12 []).sel8 .d8)) = .ok .gptm8 :=
  by unfold ChecksPass GeometryBad BufferBad SlotEmpty; decide

theorem witness_BayerRunsKernelRow_10 :
    bayerTag .sgrbg10 = some (.d10, .grbg) ∧ (ready 2 2 4 8 12 []).status.halt = false ∧ ChecksPass .sgrbg10 (ready 2 2 4 8 12 []) ∧
      decode (.kernel (kernelKey (ready 2 2 4 8 12 []).sel10 .d10)) = .ok .cottnoip10 :=
  by unfold ChecksPass GeometryBad BufferBad SlotEmpty; decide

theorem witness_DeclaredPhaseSameImage :
    bayer10Formats ∈ [bayer8Formats, bayer10Formats] ∧ Format.srggb10 ∈ bayer10Formats ∧
      Format.sgbrg10 ∈ bayer10Formats ∧ bayer8Formats ∈ [bayer8Formats, bayer10Formats] ∧
      Format.sgrbg8 ∈ bayer8Formats ∧ Format.sbggr8 ∈ bayer8Formats :=
  by decide

theorem witness_NormalisationMonotone_8 :
    ((Format.sgrbg8 ∈ bayer8Formats ∧ 1 = 1 ∧ 255 = 255) ∨
        (Format.sgrbg8 ∈ bayer10Formats ∧ 1 = 2 ∧ 255 = 1023)) ∧
      (ready 2 2 2 4 12 []).status.halt = false ∧ ChecksPass .sgrbg8 (ready 2 2 2 4 12 []) ∧
      bayerTag .sgrbg8 = some (.d8, .grbg) ∧ (ready 2 2 2 4 12 []).sel8 = Alg.gptm.id ∧ hasKernel .gptm .d8 = true ∧
      (ready 2 2 2 4 12 []).brightness.toNat ≤ (0xFFFF#16).toNat :=
  by unfold ChecksPass GeometryBad BufferBad SlotEmpty; decide

theorem witness_NormalisationMonotone_10 :
    ((Format.sgrbg10 ∈ bayer8Formats ∧ 2 = 1 ∧ 1023 = 255) ∨
        (Format.sgrbg10 ∈ bayer10Formats ∧ 2 = 2 ∧ 1023 = 1023)) ∧
      (ready 2 2 4 8 12 []).status.halt = false ∧ ChecksPass .sgrbg10 (ready 2 2 4 8 12 []) ∧
      bayerTag .sgrbg10 = some (.d10, .grbg) ∧ (ready 2 2 4 8 12 []).sel10 = Alg.cottnoip.id ∧ hasKernel .cottnoip .d10 = true ∧
      (ready 2 2 4 8 12 []).brightness.toNat ≤ (0xFFFF#16).toNat :=
  by unfold ChecksPass GeometryBad BufferBad SlotEmpty; decide

/-- The hypotheses of `KernelCottnoip`, `KernelCott`, `KernelHorip`, `KernelIp`, `KernelGptm` and `KernelGptmFast`. -/
theorem witness_KernelFits : KernelFits (ready 2 2 2 4 12 []) 1 ∧ KernelFits (ready 2 2 4 8 12 []) 2 := by decide

/-- The three cases: inside, mirrored, and neither (a plane of two with offset 2). -/
theorem witness_NeighbourRule :
    0 < 1 ∧ (0 ≤ ((3 : Nat) : Int) + -2 ∧ ((3 : Nat) : Int) + -2 < ((4 : Nat) : Int)) ∧
      (¬(0 ≤ ((0 : Nat) : Int) + -2 ∧ ((0 : Nat) : Int) + -2 < ((4 : Nat) : Int)) ∧
        (0 ≤ ((0 : Nat) : Int) - -2 ∧ ((0 : Nat) : Int) - -2 < ((4 : Nat) : Int))) ∧
      ¬(0 ≤ ((1 : Nat) : Int) + 2 ∧ ((1 : Nat) : Int) + 2 < ((2 : Nat) : Int)) ∧
      ¬(0 ≤ ((1 : Nat) : Int) - 2 ∧ ((1 : Nat) : Int) - 2 < ((2 : Nat) : Int)) :=
  by decide

theorem witness_KnownSamplesKept :
    (Instr.gptm10, Depth.d10, 2, 4) ∈
        [(Instr.cottnoip8, Depth.d8, 1, 1), (.cottnoip10, .d10, 2, 4), (.cott8, .d8, 1, 1), (.horip8, .d8, 1, 1),
         (.ip8, .d8, 1, 1), (.gptm8, .d8, 1, 1), (.gptm10, .d10, 2, 4), (.gptmFast8, .d8, 1, 1)] ∧
      KernelFits (ready 2 2 4 8 12 []) 2 ∧ Instr.gptm10 ≠ .cott8 ∧ KernelFits (ready 2 2 2 4 12 []) 1 :=
  by decide

theorem witness_FlatPlane_8 :
    (Instr.ip8, Depth.d8, 1, 1) ∈
        [(Instr.cottnoip8, Depth.d8, 1, 1), (.cottnoip10, .d10, 2, 4), (.cott8, .d8, 1, 1), (.horip8, .d8, 1, 1),
         (.ip8, .d8, 1, 1), (.gptm8, .d8, 1, 1), (.gptm10, .d10, 2, 4), (.gptmFast8, .d8, 1, 1)] ∧
      KernelFits (ready 2 2 2 4 12 [255, 255, 255, 255]) 1 ∧ 255 < 256 * 1 ∧
      ∀ y < (ready 2 2 2 4 12 [255, 255, 255, 255]).height.toNat,
        ∀ x < (ready 2 2 2 4 12 [255, 255, 255, 255]).width.toNat,
          sample .d8 (ready 2 2 2 4 12 [255, 255, 255, 255]) y x = 255 :=
  by decide

theorem witness_FlatPlane_10 :
    (Instr.gptm10, Depth.d10, 2, 4) ∈
        [(Instr.cottnoip8, Depth.d8, 1, 1), (.cottnoip10, .d10, 2, 4), (.cott8, .d8, 1, 1), (.horip8, .d8, 1, 1),
         (.ip8, .d8, 1, 1), (.gptm8, .d8, 1, 1), (.gptm10, .d10, 2, 4), (.gptmFast8, .d8, 1, 1)] ∧
      KernelFits (ready 2 2 4 8 12 [255, 3, 255, 3, 255, 3, 255, 3]) 2 ∧ 1023 < 256 * 4 ∧
      ∀ y < (ready 2 2 4 8 12 [255, 3, 255, 3, 255, 3, 255, 3]).height.toNat,
        ∀ x < (ready 2 2 4 8 12 [255, 3, 255, 3, 255, 3, 255, 3]).width.toNat,
          sample .d10 (ready 2 2 4 8 12 [255, 3, 255, 3, 255, 3, 255, 3]) y x = 1023 :=
  by decide

theorem witness_KernelMonotone :
    Instr.horip8 ∈ [Instr.cottnoip8, .cott8, .horip8, .ip8] ∧ KernelFits (ready 2 2 2 4 12 []) 1 ∧
      ∀ a, (readRaw (ready 2 2 2 4 12 []) a).toNat ≤ (readRaw { ready 2 2 2 4 12 [] with raw := [] } a).toNat :=
  ⟨by decide, by decide, fun _ => Nat.le_refl _⟩

theorem witness_LowSharpnessIsBilinear :
    ({ State.reset with sharpness := 4096#16 } : State).sharpness.toNat ≤ 4096 :=
  by decide

theorem witness_OptimalSharpnessIsFast :
    ({ State.reset with sharpness := 23171#16 } : State).sharpness = 23171#16 :=
  by decide

theorem witness_GeometryErrorEnds_zeroWidth :
    DecodesAs .yuyv .yuyv ∧ (ready 0 1 0 64 64 []).status.halt = false ∧
      GeometryBad .yuyv (ready 0 1 0 64 64 []).width.toNat (ready 0 1 0 64 64 []).height.toNat (ready 0 1 0 64 64 []).stride.toNat :=
  ⟨.inl rfl, by decide, by unfold GeometryBad; decide⟩

theorem witness_GeometryErrorEnds_zeroHeight :
    DecodesAs .grey8 .grey8 ∧ (ready 1 0 1 64 64 []).status.halt = false ∧
      GeometryBad .grey8 (ready 1 0 1 64 64 []).width.toNat (ready 1 0 1 64 64 []).height.toNat (ready 1 0 1 64 64 []).stride.toNat :=
  ⟨.inl rfl, by decide, by unfold GeometryBad; decide⟩

theorem witness_GeometryErrorEnds_oddWidth :
    DecodesAs .nv16 .nv16 ∧ (ready 1 1 1 64 64 []).status.halt = false ∧
      GeometryBad .nv16 (ready 1 1 1 64 64 []).width.toNat (ready 1 1 1 64 64 []).height.toNat (ready 1 1 1 64 64 []).stride.toNat :=
  ⟨.inl rfl, by decide, by unfold GeometryBad; decide⟩

theorem witness_GeometryErrorEnds_oddHeight :
    DecodesAs .sgrbg8 .sgrbg8 ∧ (ready 2 1 2 64 64 []).status.halt = false ∧
      GeometryBad .sgrbg8 (ready 2 1 2 64 64 []).width.toNat (ready 2 1 2 64 64 []).height.toNat (ready 2 1 2 64 64 []).stride.toNat :=
  ⟨.inl rfl, by decide, by unfold GeometryBad; decide⟩

theorem witness_GeometryErrorEnds_widthBy4 :
    DecodesAs .yuv411p .yuv411p ∧ (ready 2 1 2 64 64 []).status.halt = false ∧
      GeometryBad .yuv411p (ready 2 1 2 64 64 []).width.toNat (ready 2 1 2 64 64 []).height.toNat (ready 2 1 2 64 64 []).stride.toNat :=
  ⟨.inl rfl, by decide, by unfold GeometryBad; decide⟩

theorem witness_GeometryErrorEnds_shortStride :
    DecodesAs .rgb32 .rgb32 ∧ (ready 2 1 7 64 64 []).status.halt = false ∧
      GeometryBad .rgb32 (ready 2 1 7 64 64 []).width.toNat (ready 2 1 7 64 64 []).height.toNat (ready 2 1 7 64 64 []).stride.toNat :=
  ⟨.inl rfl, by decide, by unfold GeometryBad; decide⟩

theorem witness_GeometryErrorEnds_planarStride :
    DecodesAs .yuv444p .yuv444p ∧ (ready 2 1 3 64 64 []).status.halt = false ∧
      GeometryBad .yuv444p (ready 2 1 3 64 64 []).width.toNat (ready 2 1 3 64 64 []).height.toNat (ready 2 1 3 64 64 []).stride.toNat :=
  ⟨.inl rfl, by decide, by unfold GeometryBad; decide⟩

theorem witness_GeometryErrorEnds_oddStride :
    DecodesAs .sgrbg10 .sgrbg10 ∧ (ready 2 2 5 64 64 []).status.halt = false ∧
      GeometryBad .sgrbg10 (ready 2 2 5 64 64 []).width.toNat (ready 2 2 5 64 64 []).height.toNat (ready 2 2 5 64 64 []).stride.toNat :=
  ⟨.inl rfl, by decide, by unfold GeometryBad; decide⟩

theorem witness_BufferErrorEnds_rawSize :
    DecodesAs .grey8 .grey8 ∧ ({ ready 1 1 1 1 3 [] with rawSize := 0 } : State).status.halt = false ∧
      ¬GeometryBad .grey8 ({ ready 1 1 1 1 3 [] with rawSize := 0 } : State).width.toNat ({ ready 1 1 1 1 3 [] with rawSize := 0 } : State).height.toNat
        ({ ready 1 1 1 1 3 [] with rawSize := 0 } : State).stride.toNat ∧
      BufferBad .grey8 { ready 1 1 1 1 3 [] with rawSize := 0 } :=
  ⟨.inl rfl, by decide, by unfold GeometryBad; decide, by unfold BufferBad; decide⟩

theorem witness_BufferErrorEnds_rgbSize :
    DecodesAs .grey8 .grey8 ∧ ({ ready 1 1 1 1 3 [] with rgbSize := 2 } : State).status.halt = false ∧
      ¬GeometryBad .grey8 ({ ready 1 1 1 1 3 [] with rgbSize := 2 } : State).width.toNat ({ ready 1 1 1 1 3 [] with rgbSize := 2 } : State).height.toNat
        ({ ready 1 1 1 1 3 [] with rgbSize := 2 } : State).stride.toNat ∧
      BufferBad .grey8 { ready 1 1 1 1 3 [] with rgbSize := 2 } :=
  ⟨.inl rfl, by decide, by unfold GeometryBad; decide, by unfold BufferBad; decide⟩

theorem witness_BufferErrorEnds_rawLen :
    DecodesAs .nv12 .nv12 ∧ (ready 2 2 2 5 12 []).status.halt = false ∧
      ¬GeometryBad .nv12 (ready 2 2 2 5 12 []).width.toNat (ready 2 2 2 5 12 []).height.toNat
        (ready 2 2 2 5 12 []).stride.toNat ∧
      BufferBad .nv12 (ready 2 2 2 5 12 []) :=
  ⟨.inl rfl, by decide, by unfold GeometryBad; decide, by unfold BufferBad; decide⟩

theorem witness_BufferErrorEnds_rgbLen :
    DecodesAs .yuyv .yuyv ∧ (ready 2 1 4 4 5 []).status.halt = false ∧
      ¬GeometryBad .yuyv (ready 2 1 4 4 5 []).width.toNat (ready 2 1 4 4 5 []).height.toNat
        (ready 2 1 4 4 5 []).stride.toNat ∧
      BufferBad .yuyv (ready 2 1 4 4 5 []) :=
  ⟨.inl rfl, by decide, by unfold GeometryBad; decide, by unfold BufferBad; decide⟩

theorem witness_EmptySlotHalts_8 :
    ({ ready 2 2 2 4 12 [] with sel8 := 0xF#4 } : State).status.halt = false ∧
      ¬GeometryBad .sgrbg8 ({ ready 2 2 2 4 12 [] with sel8 := 0xF#4 } : State).width.toNat
        ({ ready 2 2 2 4 12 [] with sel8 := 0xF#4 } : State).height.toNat ({ ready 2 2 2 4 12 [] with sel8 := 0xF#4 } : State).stride.toNat ∧
      ¬BufferBad .sgrbg8 { ready 2 2 2 4 12 [] with sel8 := 0xF#4 } ∧ SlotEmpty .sgrbg8 { ready 2 2 2 4 12 [] with sel8 := 0xF#4 } :=
  by unfold GeometryBad BufferBad SlotEmpty; decide

theorem witness_EmptySlotHalts_10 :
    ({ ready 2 2 4 8 12 [] with sel10 := 0xF#4 } : State).status.halt = false ∧
      ¬GeometryBad .sgrbg10 ({ ready 2 2 4 8 12 [] with sel10 := 0xF#4 } : State).width.toNat
        ({ ready 2 2 4 8 12 [] with sel10 := 0xF#4 } : State).height.toNat ({ ready 2 2 4 8 12 [] with sel10 := 0xF#4 } : State).stride.toNat ∧
      ¬BufferBad .sgrbg10 { ready 2 2 4 8 12 [] with sel10 := 0xF#4 } ∧ SlotEmpty .sgrbg10 { ready 2 2 4 8 12 [] with sel10 := 0xF#4 } :=
  by unfold GeometryBad BufferBad SlotEmpty; decide

/-- A state of the invariant: `ip` selected, a 10-bit Bayer decode asked for. -/
def aboutToHalt : State :=
  { ready 2 2 4 8 12 [1, 2, 3, 4, 5, 6, 7, 8] with
    sel8 := 3#4, sel10 := 0xF#4, port := [.regWrite 0 0x00006801#32] }

theorem witness_InvKept_inv : Inv aboutToHalt := by constructor <;> decide

theorem witness_InvKept : Inv aboutToHalt ∧ ∃ t, step aboutToHalt = .next t := ⟨witness_InvKept_inv, _, rfl⟩

theorem witness_OnlyEmptySlotHalts :
    Inv aboutToHalt ∧ aboutToHalt.status.halt = false ∧
      ∃ t, step aboutToHalt = .next t ∧ t.status.halt = true :=
  ⟨witness_InvKept_inv, by decide, _, rfl, by decide⟩

theorem witness_SwapLaw :
    DecodesAs .sgrbg8 .sgrbg8 ∧ (ready 2 2 2 4 12 []).ctrl.getLsbD 0 = false ∧ (ready 2 2 2 4 12 []).status.halt = false :=
  ⟨.inl rfl, by decide, by decide⟩

/-- Two states that differ beyond the source only; every register is the same. -/
theorem witness_DependsOnlyOnSource :
    DecodesAs .sgrbg8 .sgrbg8 ∧ (ready 2 2 2 4 12 []).status.halt = false ∧
      ((Format.sgrbg8 ∈ bayer8Formats ∧ (ready 2 2 2 4 12 []).sel8 = 4#4) ∨
        (Format.sgrbg8 ∈ bayer10Formats ∧ (ready 2 2 2 4 12 []).sel10 = 4#4)) ∧
      ∀ a < sourceNeed .sgrbg8 (ready 2 2 2 4 12 []).width.toNat (ready 2 2 2 4 12 []).height.toNat
          (ready 2 2 2 4 12 []).stride.toNat,
        readRaw (ready 2 2 2 4 12 [1, 2, 3, 4, 9]) a = readRaw (ready 2 2 2 4 12 [1, 2, 3, 4]) a :=
  ⟨.inl rfl, by decide, by decide, by decide⟩

/-- `len` bytes from `start` on are `b`. -/
abbrev Filled (s : State) (start len : Nat) (b : Byte) : Prop := ∀ k < len, readRaw s (start + k) = b

theorem witness_ConstantImage_yuyv :
    DecodesAs .yuyv .yuyv ∧ ChecksPass .yuyv (ready 2 1 4 4 6 [81, 90, 81, 240]) ∧
      (ready 2 1 4 4 6 [81, 90, 81, 240]).status.halt = false ∧ readRaw (ready 2 1 4 4 6 [81, 90, 81, 240]) 0 = 81 ∧ readRaw (ready 2 1 4 4 6 [81, 90, 81, 240]) 2 = 81 ∧
      readRaw (ready 2 1 4 4 6 [81, 90, 81, 240]) 1 = 90 ∧ readRaw (ready 2 1 4 4 6 [81, 90, 81, 240]) 3 = 240 :=
  ⟨.inl rfl, by unfold ChecksPass GeometryBad BufferBad SlotEmpty; decide⟩

theorem witness_ConstantImage_uyvy :
    DecodesAs .uyvy .uyvy ∧ ChecksPass .uyvy (ready 2 1 4 4 6 [90, 81, 240, 81]) ∧
      (ready 2 1 4 4 6 [90, 81, 240, 81]).status.halt = false ∧ readRaw (ready 2 1 4 4 6 [90, 81, 240, 81]) 1 = 81 ∧ readRaw (ready 2 1 4 4 6 [90, 81, 240, 81]) 3 = 81 ∧
      readRaw (ready 2 1 4 4 6 [90, 81, 240, 81]) 0 = 90 ∧ readRaw (ready 2 1 4 4 6 [90, 81, 240, 81]) 2 = 240 :=
  ⟨.inl rfl, by unfold ChecksPass GeometryBad BufferBad SlotEmpty; decide⟩

theorem witness_ConstantImage_nv12 :
    DecodesAs .nv12 .nv12 ∧ ChecksPass .nv12 (ready 2 2 2 6 12 [81, 81, 81, 81, 90, 240]) ∧
      (ready 2 2 2 6 12 [81, 81, 81, 81, 90, 240]).status.halt = false ∧ Filled (ready 2 2 2 6 12 [81, 81, 81, 81, 90, 240]) 0 4 81 ∧
      Filled (ready 2 2 2 6 12 [81, 81, 81, 81, 90, 240]) 4 1 90 ∧ Filled (ready 2 2 2 6 12 [81, 81, 81, 81, 90, 240]) 5 1 240 :=
  ⟨.inl rfl, by unfold ChecksPass GeometryBad BufferBad SlotEmpty; decide⟩

theorem witness_ConstantImage_nv21 :
    DecodesAs .nv21 .nv21 ∧ ChecksPass .nv21 (ready 2 2 2 6 12 [81, 81, 81, 81, 240, 90]) ∧
      (ready 2 2 2 6 12 [81, 81, 81, 81, 240, 90]).status.halt = false ∧ Filled (ready 2 2 2 6 12 [81, 81, 81, 81, 240, 90]) 0 4 81 ∧
      Filled (ready 2 2 2 6 12 [81, 81, 81, 81, 240, 90]) 4 1 240 ∧ Filled (ready 2 2 2 6 12 [81, 81, 81, 81, 240, 90]) 5 1 90 :=
  ⟨.inl rfl, by unfold ChecksPass GeometryBad BufferBad SlotEmpty; decide⟩

theorem witness_ConstantImage_nv16 :
    DecodesAs .nv16 .nv16 ∧ ChecksPass .nv16 (ready 2 1 2 4 6 [81, 81, 90, 240]) ∧
      (ready 2 1 2 4 6 [81, 81, 90, 240]).status.halt = false ∧ Filled (ready 2 1 2 4 6 [81, 81, 90, 240]) 0 2 81 ∧
      Filled (ready 2 1 2 4 6 [81, 81, 90, 240]) 2 1 90 ∧ Filled (ready 2 1 2 4 6 [81, 81, 90, 240]) 3 1 240 :=
  ⟨.inl rfl, by unfold ChecksPass GeometryBad BufferBad SlotEmpty; decide⟩

theorem witness_ConstantImage_yuv411p :
    DecodesAs .yuv411p .yuv411p ∧ ChecksPass .yuv411p (ready 4 1 4 6 12 [81, 81, 81, 81, 90, 240]) ∧
      (ready 4 1 4 6 12 [81, 81, 81, 81, 90, 240]).status.halt = false ∧ Filled (ready 4 1 4 6 12 [81, 81, 81, 81, 90, 240]) 0 4 81 ∧
      Filled (ready 4 1 4 6 12 [81, 81, 81, 81, 90, 240]) 4 1 90 ∧ Filled (ready 4 1 4 6 12 [81, 81, 81, 81, 90, 240]) 5 1 240 :=
  ⟨.inl rfl, by unfold ChecksPass GeometryBad BufferBad SlotEmpty; decide⟩

theorem witness_ConstantImage_yvu411p :
    DecodesAs .yvu411p .yvu411p ∧ ChecksPass .yvu411p (ready 4 1 4 6 12 [81, 81, 81, 81, 240, 90]) ∧
      (ready 4 1 4 6 12 [81, 81, 81, 81, 240, 90]).status.halt = false ∧ Filled (ready 4 1 4 6 12 [81, 81, 81, 81, 240, 90]) 0 4 81 ∧
      Filled (ready 4 1 4 6 12 [81, 81, 81, 81, 240, 90]) 4 1 240 ∧ Filled (ready 4 1 4 6 12 [81, 81, 81, 81, 240, 90]) 5 1 90 :=
  ⟨.inl rfl, by unfold ChecksPass GeometryBad BufferBad SlotEmpty; decide⟩

theorem witness_ConstantImage_yuv420p :
    DecodesAs .yuv420p .yuv420p ∧ ChecksPass .yuv420p (ready 2 2 2 6 12 [81, 81, 81, 81, 90, 240]) ∧
      (ready 2 2 2 6 12 [81, 81, 81, 81, 90, 240]).status.halt = false ∧ Filled (ready 2 2 2 6 12 [81, 81, 81, 81, 90, 240]) 0 4 81 ∧
      Filled (ready 2 2 2 6 12 [81, 81, 81, 81, 90, 240]) 4 1 90 ∧ Filled (ready 2 2 2 6 12 [81, 81, 81, 81, 90, 240]) 5 1 240 :=
  ⟨.inl rfl, by unfold ChecksPass GeometryBad BufferBad SlotEmpty; decide⟩

theorem witness_ConstantImage_yvu420p :
    DecodesAs .yvu420p .yvu420p ∧ ChecksPass .yvu420p (ready 2 2 2 6 12 [81, 81, 81, 81, 240, 90]) ∧
      (ready 2 2 2 6 12 [81, 81, 81, 81, 240, 90]).status.halt = false ∧ Filled (ready 2 2 2 6 12 [81, 81, 81, 81, 240, 90]) 0 4 81 ∧
      Filled (ready 2 2 2 6 12 [81, 81, 81, 81, 240, 90]) 4 1 240 ∧ Filled (ready 2 2 2 6 12 [81, 81, 81, 81, 240, 90]) 5 1 90 :=
  ⟨.inl rfl, by unfold ChecksPass GeometryBad BufferBad SlotEmpty; decide⟩

theorem witness_ConstantImage_yuv422p :
    DecodesAs .yuv422p .yuv422p ∧ ChecksPass .yuv422p (ready 2 1 2 4 6 [81, 81, 90, 240]) ∧
      (ready 2 1 2 4 6 [81, 81, 90, 240]).status.halt = false ∧ Filled (ready 2 1 2 4 6 [81, 81, 90, 240]) 0 2 81 ∧
      Filled (ready 2 1 2 4 6 [81, 81, 90, 240]) 2 1 90 ∧ Filled (ready 2 1 2 4 6 [81, 81, 90, 240]) 3 1 240 :=
  ⟨.inl rfl, by unfold ChecksPass GeometryBad BufferBad SlotEmpty; decide⟩

theorem witness_ConstantImage_yvu422p :
    DecodesAs .yvu422p .yvu422p ∧ ChecksPass .yvu422p (ready 2 1 2 4 6 [81, 81, 240, 90]) ∧
      (ready 2 1 2 4 6 [81, 81, 240, 90]).status.halt = false ∧ Filled (ready 2 1 2 4 6 [81, 81, 240, 90]) 0 2 81 ∧
      Filled (ready 2 1 2 4 6 [81, 81, 240, 90]) 2 1 240 ∧ Filled (ready 2 1 2 4 6 [81, 81, 240, 90]) 3 1 90 :=
  ⟨.inl rfl, by unfold ChecksPass GeometryBad BufferBad SlotEmpty; decide⟩

theorem witness_ConstantImage_yuv444p :
    DecodesAs .yuv444p .yuv444p ∧ ChecksPass .yuv444p (ready 1 1 1 3 3 [81, 90, 240]) ∧
      (ready 1 1 1 3 3 [81, 90, 240]).status.halt = false ∧ Filled (ready 1 1 1 3 3 [81, 90, 240]) 0 1 81 ∧
      Filled (ready 1 1 1 3 3 [81, 90, 240]) 1 1 90 ∧ Filled (ready 1 1 1 3 3 [81, 90, 240]) 2 1 240 :=
  ⟨.inl rfl, by unfold ChecksPass GeometryBad BufferBad SlotEmpty; decide⟩

theorem witness_ConstantImage_yvu444p :
    DecodesAs .yvu444p .yvu444p ∧ ChecksPass .yvu444p (ready 1 1 1 3 3 [81, 240, 90]) ∧
      (ready 1 1 1 3 3 [81, 240, 90]).status.halt = false ∧ Filled (ready 1 1 1 3 3 [81, 240, 90]) 0 1 81 ∧
      Filled (ready 1 1 1 3 3 [81, 240, 90]) 1 1 240 ∧ Filled (ready 1 1 1 3 3 [81, 240, 90]) 2 1 90 :=
  ⟨.inl rfl, by unfold ChecksPass GeometryBad BufferBad SlotEmpty; decide⟩

/-- With the state of `witness_ConstantImage_yuyv`. -/
theorem witness_ConstantImage_fallback :
    DecodesAs (.fallback 0#8) .yuyv :=
  .inr ⟨rfl, 0#8, by intro g; cases g <;> decide, rfl⟩

end Sys2Proof.Tests
end

