-- ==== Sys2Proof/Proofs/Encoding.lean ====
section
/-! PROOFS. Decoder and encoder agree, in both directions, and the decoder is total (R90, R91, R94, R96, R98). The
words the decoder accepts are those of four shapes of `commandWord`; each statement goes through these shapes. -/

namespace Sys2Proof

open Sys2Proof.Machine

/-! ### The fields of a word as numbers (R90) -/

theorem toNat_opcOf (w : Word) : (opcOf w).toNat = w.toNat % 256 := by
  simp [opcOf, BitVec.extractLsb'_toNat]

theorem toNat_argOf (w : Word) : (argOf w).toNat = w.toNat / 256 % 256 := by
  simp [argOf, BitVec.extractLsb'_toNat, Nat.shiftRight_eq_div_pow]

theorem toNat_immOf (w : Word) : (immOf w).toNat = w.toNat / 65536 := by
  have := w.isLt
  simp only [immOf, BitVec.extractLsb'_toNat, Nat.shiftRight_eq_div_pow]
  omega

/-- A word is determined by the numbers of its fields (R90). -/
theorem eq_commandWord {w : Word} {o a : BitVec 8} {i : BitVec 16} (ho : w.toNat % 256 = o.toNat)
    (ha : w.toNat / 256 % 256 = a.toNat) (hi : w.toNat / 65536 = i.toNat) : w = commandWord o a i := by
  have hopc : opcOf w = o := BitVec.eq_of_toNat_eq (by rw [toNat_opcOf, ho])
  have harg : argOf w = a := BitVec.eq_of_toNat_eq (by rw [toNat_argOf, ha])
  have himm : immOf w = i := BitVec.eq_of_toNat_eq (by rw [toNat_immOf, hi])
  rw [← hopc, ← harg, ← himm, commandWord_fields]

/-- The fields of an encoded word, as numbers (R90). -/
theorem commandWord_toNat_fields (o a : BitVec 8) (i : BitVec 16) :
    (commandWord o a i).toNat % 256 = o.toNat ∧ (commandWord o a i).toNat / 256 % 256 = a.toNat ∧
      (commandWord o a i).toNat / 65536 = i.toNat := by
  simp [← toNat_opcOf, ← toNat_argOf, ← toNat_immOf]

/-! ### The legal words decode (R91) -/

@[simp] theorem decode_decodeWord (arg : BitVec 8) :
    decode (.command (commandWord 0x01#8 arg 0#16)) = .ok (decodeTag arg) := by
  simp [decode, decodeCommandWord]

@[simp] theorem decode_selectWord : decode (.command (commandWord 0x02#8 0#8 0#16)) = .ok .select := by
  simp [decode, decodeCommandWord]

@[simp] theorem decode_setsharpWord (value : Half) :
    decode (.command (commandWord 0x03#8 0#8 value)) = .ok (.setsharp value) := by
  simp [decode, decodeCommandWord]

@[simp] theorem decode_listWord (idx : BitVec 8) :
    decode (.command (commandWord 0x04#8 idx 0#16)) = .ok (.list idx) := by
  simp [decode, decodeCommandWord]

/-- What the decoder can answer for a command word: one of the four operations, from the one word shape of each
(R91). -/
theorem decode_command_cases {w : Word} {i : Instr} (h : decode (.command w) = .ok i) :
    (∃ arg, w = commandWord 0x01#8 arg 0#16 ∧ i = decodeTag arg) ∨
      (w = commandWord 0x02#8 0#8 0#16 ∧ i = .select) ∨
      (∃ value, w = commandWord 0x03#8 0#8 value ∧ i = .setsharp value) ∨
      (∃ idx, w = commandWord 0x04#8 idx 0#16 ∧ i = .list idx) := by
  have shape (o : BitVec 8) (ho : (opcOf w).toNat = o.toNat) : w = commandWord o (argOf w) (immOf w) := by
    rw [← BitVec.eq_of_toNat_eq ho, commandWord_fields]
  simp only [decode, decodeCommandWord] at h
  split at h
  · next ho =>
    split at h <;> cases h
    next hi => exact .inl ⟨argOf w, by simpa [hi] using shape 0x01#8 ho, rfl⟩
  · next ho =>
    split at h
    · next ha =>
      split at h <;> cases h
      next hi => exact .inr (.inl ⟨by simpa [ha, hi] using shape 0x02#8 ho, rfl⟩)
    · cases h
  · next ho =>
    split at h <;> cases h
    next ha => exact .inr (.inr (.inl ⟨immOf w, by simpa [ha] using shape 0x03#8 ho, rfl⟩))
  · next ho =>
    split at h <;> cases h
    next hi => exact .inr (.inr (.inr ⟨argOf w, by simpa [hi] using shape 0x04#8 ho, rfl⟩))
  · cases h

/-- Only legal words decode (R91, R100). -/
theorem legalWord_of_decode {w : Word} {i : Instr} (h : decode (.command w) = .ok i) : LegalWord w := by
  obtain ⟨arg, rfl, -⟩ | ⟨rfl, -⟩ | ⟨value, rfl, -⟩ | ⟨idx, rfl, -⟩ := decode_command_cases h <;>
    simp [LegalWord, commandWord_toNat_fields]

/-! ### Format tags (R94, R96, R101) -/

@[simp] theorem decodeTag_tag (f : Format) : decodeTag f.tag = f.instr := by simp [decodeTag]

theorem decodeTag_unrecognised {t : BitVec 8} (h : Format.ofTag t = none) : decodeTag t = .fallback t := by
  simp [decodeTag, h]

/-- A tag that no format has is unrecognised (R101). -/
theorem ofTag_eq_none {t : BitVec 8} (h : ∀ f : Format, f.tag ≠ t) : Format.ofTag t = none :=
  Option.eq_none_iff_forall_not_mem.2 fun f hf => h f (tag_of_ofTag hf)

/-- The match column of the `DECODE` rows is the tag table (R94). -/
theorem encode_instr (f : Format) : encode f.instr = .command (commandWord 0x01#8 f.tag 0#16) := by
  cases f <;> rfl

theorem wellFormed_instr (f : Format) : f.instr.wellFormed = true := by cases f <;> rfl

/-- `DECODE` of any tag, a row's or the fallback's, is well formed and encodes to the word that holds the tag. -/
theorem encode_decodeTag (t : BitVec 8) :
    encode (decodeTag t) = .command (commandWord 0x01#8 t 0#16) ∧ (decodeTag t).wellFormed = true := by
  unfold decodeTag
  split
  · next f hf => exact ⟨by rw [encode_instr, tag_of_ofTag hf], wellFormed_instr f⟩
  · next hf => exact ⟨rfl, by simp [Instr.wellFormed, hf]⟩

/-! ### Kernel keys (R98) -/

/-- The row a key matches has that key. -/
theorem kernelKey_of_kernelRow {key : BitVec 5} {a : Alg} {d : Depth} (h : kernelRow key = some (a, d)) :
    kernelKey a.id d = key := by
  revert key
  cases a <;> cases d <;> decide

/-- A kernel instruction is well formed and encodes to the key of its algorithm and depth. -/
theorem encode_kernelInstr {a : Alg} {d : Depth} {i : Instr} (h : kernelInstr a d = some i) :
    encode i = .kernel (kernelKey a.id d) ∧ i.wellFormed = true := by
  cases a <;> cases d <;> cases h <;> exact ⟨rfl, rfl⟩

/-- What the decoder can answer for a key: the kernel of the row it matches. -/
theorem decode_kernel_cases {key : BitVec 5} {i : Instr} (h : decode (.kernel key) = .ok i) :
    ∃ a d, kernelRow key = some (a, d) ∧ kernelInstr a d = some i := by
  simp only [decode, decodeKernelKey] at h
  split at h
  · next a d hrow =>
    split at h
    · next j hj =>
      cases h
      exact ⟨a, d, hrow, hj⟩
    · cases h
  · cases h

/-! ### The statements -/

/-- Settles O1. The four operand-carrying rows for every operand; every other row is one fixed code, which the decoder
evaluates. -/
theorem encodeDecodeAgree : Obligations.EncodeDecodeAgree := by
  intro i hwf
  cases i with
  | fallback tag =>
    have hnone : Format.ofTag tag = none := by simpa [Instr.wellFormed] using hwf
    rw [encode, decode_decodeWord, decodeTag_unrecognised hnone]
  | setsharp value => exact decode_setsharpWord value
  | list idx => exact decode_listWord idx
  | _ => rfl

/-- Settles O2, by what the decoder can answer for a word and for a key. -/
theorem decodeEncodeAgree : Obligations.DecodeEncodeAgree := by
  intro c i h
  cases c with
  | command w =>
    obtain ⟨arg, rfl, rfl⟩ | ⟨rfl, rfl⟩ | ⟨value, rfl, rfl⟩ | ⟨idx, rfl, rfl⟩ := decode_command_cases h
    · exact encode_decodeTag arg
    · exact ⟨rfl, rfl⟩
    · exact ⟨rfl, rfl⟩
    · exact ⟨rfl, rfl⟩
  | kernel key =>
    obtain ⟨a, d, hrow, hi⟩ := decode_kernel_cases h
    rw [← kernelKey_of_kernelRow hrow]
    exact encode_kernelInstr hi

/-- A word that is not legal is refused (R91, R100). -/
theorem decode_illegal {w : Word} (h : ¬LegalWord w) : ∃ e, decode (.command w) = .error e := by
  cases hd : decode (.command w) with
  | error e => exact ⟨e, rfl⟩
  | ok i => exact absurd (legalWord_of_decode hd) h

/-- Settles O3: a legal word of each opcode has the one shape of that opcode, which decodes to its instruction. -/
theorem legalWordsExactly : Obligations.LegalWordsExactly := by
  intro w
  refine ⟨decode_illegal, fun h ho => ?_, fun h ho => ?_, fun h ho => ?_, fun h ho => ?_⟩
  · have himm : w.toNat / 65536 = 0 := by unfold LegalWord at h; omega
    obtain ⟨arg, rfl⟩ : ∃ arg, w = commandWord 0x01#8 arg 0#16 :=
      ⟨argOf w, eq_commandWord ho (toNat_argOf w).symm himm⟩
    simp only [commandWord_toNat_fields, decode_decodeWord, BitVec.ofNat_toNat, BitVec.setWidth_eq]
    constructor
    · intro f hf
      rw [← BitVec.eq_of_toNat_eq hf, decodeTag_tag]
    · intro hno
      rw [decodeTag_unrecognised (ofTag_eq_none fun f hf => hno f (congrArg BitVec.toNat hf))]
  · have hz : w.toNat / 256 % 256 = 0 ∧ w.toNat / 65536 = 0 := by unfold LegalWord at h; omega
    obtain ⟨harg, himm⟩ := hz
    obtain rfl : w = commandWord 0x02#8 0#8 0#16 := eq_commandWord ho harg himm
    exact decode_selectWord
  · have harg : w.toNat / 256 % 256 = 0 := by unfold LegalWord at h; omega
    obtain ⟨value, rfl⟩ : ∃ value, w = commandWord 0x03#8 0#8 value :=
      ⟨immOf w, eq_commandWord ho harg (toNat_immOf w).symm⟩
    simp [commandWord_toNat_fields]
  · have himm : w.toNat / 65536 = 0 := by unfold LegalWord at h; omega
    obtain ⟨idx, rfl⟩ : ∃ idx, w = commandWord 0x04#8 idx 0#16 :=
      ⟨argOf w, eq_commandWord ho (toNat_argOf w).symm himm⟩
    simp [commandWord_toNat_fields]

/-- Settles O4: each word is the encoding of its instruction. -/
theorem specWordsDecode : Obligations.SpecWordsDecode :=
  ⟨encodeDecodeAgree .yuyv rfl, encodeDecodeAgree .nv16 rfl, encodeDecodeAgree .yvu444p rfl,
    encodeDecodeAgree .y12 rfl, encodeDecodeAgree .rgb32 rfl, encodeDecodeAgree .sgbrg10 rfl,
    encodeDecodeAgree (.fallback 0#8) rfl, encodeDecodeAgree .select rfl,
    encodeDecodeAgree (.setsharp 23171#16) rfl, encodeDecodeAgree (.list 5#8) rfl⟩

/-- Settles O5, by evaluating the decoder on each of the 32 keys. -/
theorem kernelKeysDecode : Obligations.KernelKeysDecode := by
  unfold Obligations.KernelKeysDecode
  decide

end Sys2Proof
end

