-- ==== Sys2Proof/Proofs/Csc.lean ====
section
/-! PROOFS. The colorspace converter (R120, R123, R124). A channel is `clip8 (floorShift n 8)` of its numerator `n`, so
each law of the conversion is a fact about this one reduction and a linear fact about the three numerators. -/

namespace Sys2Proof

open Sys2Proof.Machine

/-! ### The reduction of a numerator to a byte (R9) -/

theorem floorShift_eight (n : Int) : floorShift n 8 = n / 256 := rfl

theorem clip8_floorShift_toNat (n : Int) : ((clip8 (floorShift n 8)).toNat : Int) = max 0 (min 255 (n / 256)) := by
  rw [clip8_toNat, floorShift_eight]

theorem clip8_floorShift_mono {a b : Int} (h : a ≤ b) :
    (clip8 (floorShift a 8)).toNat ≤ (clip8 (floorShift b 8)).toNat :=
  clip8_mono (Int.ediv_le_ediv (by decide) h)

theorem clip8_of_nonpos {v : Int} (h : v ≤ 0) : clip8 v = 0 := by
  have hv : ((clip8 v).toNat : Int) = max 0 (min 255 v) := clip8_toNat v
  exact BitVec.eq_of_toNat_eq (show (clip8 v).toNat = 0 by omega)

theorem clip8_of_ge {v : Int} (h : 255 ≤ v) : clip8 v = 255 := by
  have hv : ((clip8 v).toNat : Int) = max 0 (min 255 v) := clip8_toNat v
  exact BitVec.eq_of_toNat_eq (show (clip8 v).toNat = 255 by omega)

theorem tdiv_nonpos {n : Int} (h : n ≤ 0) : n.tdiv 256 ≤ 0 := by
  have hneg : 0 ≤ (-n).tdiv 256 := Int.tdiv_nonneg (by omega) (by decide)
  rw [Int.neg_tdiv] at hneg
  omega

/-- The floor and the truncation differ below zero only, where the clamp maps both to 0 (R123). -/
theorem clip8_floorShift_eq_tdiv (n : Int) : clip8 (floorShift n 8) = clip8 (n.tdiv 256) := by
  rw [floorShift_eight]
  obtain hn | hn := Int.le_total 0 n
  · rw [Int.tdiv_eq_ediv_of_nonneg hn]
  · rw [clip8_of_nonpos (Int.ediv_nonpos_of_nonpos_of_neg hn (by decide)),
      clip8_of_nonpos (tdiv_nonpos hn)]

/-! ### The numerators (R120, R124) -/

section
variable {y y' u u' v v' : Byte}

theorem redNum_mono (hy : y.toNat ≤ y'.toNat) (hv : v.toNat ≤ v'.toNat) : redNum y u v ≤ redNum y' u' v' := by
  unfold redNum; omega

theorem blueNum_mono (hy : y.toNat ≤ y'.toNat) (hu : u.toNat ≤ u'.toNat) : blueNum y u v ≤ blueNum y' u' v' := by
  unfold blueNum; omega

/-- Green rises with the luma and falls as either chroma sample rises. -/
theorem greenNum_mono (hy : y.toNat ≤ y'.toNat) (hu : u.toNat ≤ u'.toNat) (hv : v.toNat ≤ v'.toNat) :
    greenNum y u' v' ≤ greenNum y' u v := by
  unfold greenNum; omega

end

/-- The numerator of every channel on the grey axis. -/
def greyNum (y : Byte) : Int := 298 * ((y.toNat : Int) - 16) + 128

theorem redNum_grey (y u : Byte) : redNum y u 128 = greyNum y := by simp [redNum, greyNum]

theorem greenNum_grey (y : Byte) : greenNum y 128 128 = greyNum y := by simp [greenNum, greyNum]

theorem blueNum_grey (y v : Byte) : blueNum y 128 v = greyNum y := by simp [blueNum, greyNum]

theorem yuvToRgb_grey (y : Byte) :
    yuvToRgb y 128 128 =
      ⟨clip8 (floorShift (greyNum y) 8), clip8 (floorShift (greyNum y) 8), clip8 (floorShift (greyNum y) 8)⟩ := by
  rw [yuvToRgb, redNum_grey, greenNum_grey, blueNum_grey]

theorem clip8_greyNum_dark {y : Byte} (h : y.toNat ≤ 16) : clip8 (floorShift (greyNum y) 8) = 0 := by
  apply clip8_of_nonpos
  rw [floorShift_eight, greyNum]
  omega

theorem clip8_greyNum_bright {y : Byte} (h : 235 ≤ y.toNat) : clip8 (floorShift (greyNum y) 8) = 255 := by
  apply clip8_of_ge
  rw [floorShift_eight, greyNum]
  omega

/-! ### The statements -/

/-- Settles O25: the grey axis has one numerator, red and blue each leave out one chroma sample, and the reduction keeps
the order of the numerators. -/
theorem conversionLaws : Obligations.ConversionLaws := by
  refine ⟨fun y => ?_, fun y u u' v v' => ⟨rfl, rfl⟩, fun y y' u u' v v' hy hu hv => ?_, fun y u v => ?_⟩
  · rw [yuvToRgb_grey]
    exact ⟨rfl, rfl, clip8_floorShift_toNat (greyNum y), clip8_greyNum_dark, clip8_greyNum_bright⟩
  · exact ⟨clip8_floorShift_mono (redNum_mono hy hv), clip8_floorShift_mono (blueNum_mono hy hu),
      clip8_floorShift_mono (greenNum_mono hy hu hv)⟩
  · exact ⟨Nat.le_of_lt_succ (BitVec.isLt _), Nat.le_of_lt_succ (BitVec.isLt _), Nat.le_of_lt_succ (BitVec.isLt _)⟩

/-- Settles O26: the two readings agree on each of the three numerators. -/
theorem conversionTruncation : Obligations.ConversionTruncation := by
  refine ⟨clip8_floorShift_eq_tdiv, fun y u v => ?_⟩
  simp only [yuvToRgb, clip8_floorShift_eq_tdiv, redNum, greenNum, blueNum]

/-- Settles O24: each channel is the reduction of its numerator; the worked examples lie on the two clamped ends of the
grey axis. -/
theorem colourConversion : Obligations.ColourConversion := by
  refine ⟨fun y u v => ?_, ?_, ?_⟩
  · exact ⟨clip8_floorShift_toNat (redNum y u v), clip8_floorShift_toNat (greenNum y u v),
      clip8_floorShift_toNat (blueNum y u v)⟩
  · rw [yuvToRgb_grey, clip8_greyNum_dark (by decide)]
  · rw [yuvToRgb_grey, clip8_greyNum_bright (by decide)]

end Sys2Proof
end

