-- ==== Sys2Proof/Proofs/Registry.lean ====
section
/-! PROOFS. The registry commands `SELECT`, `SETSHARP`, `LIST` (R130, R131, R132, R135, R137, R138). The statements
speak of the four words of a name, the model of its 16 bytes: the packing of R29 carries the one to the other. -/

namespace Sys2Proof

open Sys2Proof.Machine

/-! ### Words and their bytes (R29) -/

/-- A packed word holds the bytes it was packed from. -/
theorem bytes_append (b0 b1 b2 b3 : Byte) {r : Nat} (hr : r < 4) :
    (b3 ++ b2 ++ b1 ++ b0 : BitVec 32).extractLsb' (8 * r) 8 = [b0, b1, b2, b3].getD r 0 := by
  ext k hk
  simp only [BitVec.getElem_extractLsb', BitVec.getLsbD_append]
  interval_cases r <;> simp only [List.getD_cons_zero, List.getD_cons_succ] <;> grind

theorem byte_immOf (w : Word) (k : Nat) (hk : k ≤ 8) :
    (immOf w).extractLsb' k 8 = w.extractLsb' (16 + k) 8 := by
  ext i hi
  have hin : k + i < 16 := by omega
  simp [immOf, hin, Nat.add_assoc]

/-- A word is the concatenation of its four bytes. -/
theorem word_eq_bytes (w : Word) :
    (w.extractLsb' 24 8 ++ w.extractLsb' 16 8 ++ w.extractLsb' 8 8 ++ w.extractLsb' 0 8 : BitVec 32) = w := by
  rw [← byte_immOf w 8 (by decide), ← byte_immOf w 0 (by decide), half_bytes]
  exact commandWord_fields w

/-! ### The name operand and the names of the entries (R29, R130) -/

/-- `NAME0..3` is the packing of the name operand. -/
theorem packedWord_nameOperand (s : State) {i : Nat} (hi : i < 4) : packedWord (nameOperand s) i = nameReg s i := by
  interval_cases i <;> exact word_eq_bytes _

/-- Byte `i` of a packed string stands in byte `i % 4` of word `i / 4`. -/
theorem byte_packedWord (n : List Byte) (i : Nat) :
    (packedWord n (i / 4)).extractLsb' (8 * (i % 4)) 8 = n.getD i 0 := by
  have hr : i % 4 < 4 := Nat.mod_lt i (by decide)
  rw [packedWord, bytes_append _ _ _ _ hr]
  conv_rhs => rw [← Nat.div_add_mod i 4]
  interval_cases i % 4 <;> rfl

/-- Registers that hold the packing of a 16-byte string have that string as the name operand. -/
theorem nameOperand_of_packed {s : State} {n : List Byte} (hn : n.length = 16)
    (h : ∀ i < 4, nameReg s i = packedWord n i) : nameOperand s = n := by
  refine List.ext_getElem (by simp [nameOperand, hn]) fun i hi hi' => ?_
  have hword : i / 4 < 4 := by omega
  simp [nameOperand, nameByte, h _ hword, byte_packedWord, hi']

/-- The zero-padded name of an entry as the four words of R29. -/
def entryWords (a : Alg) : Word × Word × Word × Word :=
  (packedWord (padName (algName a)) 0, packedWord (padName (algName a)) 1, packedWord (padName (algName a)) 2,
    packedWord (padName (algName a)) 3)

/-- No name is longer than 12 bytes (R31). -/
theorem packedWord_three (a : Alg) : packedWord (padName (algName a)) 3 = 0 := by cases a <;> decide

/-- An entry is named when its four words stand in `NAME0..3` (R130). -/
theorem padName_eq_nameOperand_iff (s : State) (a : Alg) :
    padName (algName a) = nameOperand s ↔ (s.name0, s.name1, s.name2, s.name3) = entryWords a := by
  constructor
  · intro h
    rw [entryWords, h, packedWord_nameOperand s (by decide), packedWord_nameOperand s (by decide),
      packedWord_nameOperand s (by decide), packedWord_nameOperand s (by decide)]
    rfl
  · intro h
    obtain ⟨h0, h1, h2, h3⟩ : s.name0 = packedWord (padName (algName a)) 0 ∧
        s.name1 = packedWord (padName (algName a)) 1 ∧ s.name2 = packedWord (padName (algName a)) 2 ∧
        s.name3 = packedWord (padName (algName a)) 3 := by simpa [entryWords] using h
    have hlen : (padName (algName a)).length = 16 := by cases a <;> rfl
    refine (nameOperand_of_packed hlen fun i hi => ?_).symm
    interval_cases i <;> assumption

theorem mem_allAlgs (a : Alg) : a ∈ allAlgs := by cases a <;> decide

/-- The entries stand in the list in the order of their ids (R31). -/
theorem allAlgs_getElem?_id (a : Alg) : allAlgs[(a.id.setWidth 8).toNat]? = some a := by cases a <;> rfl

/-! ### What the commands do on a ready engine (R330) -/

theorem exec_select (s : State) : exec .select s = execSelect s := rfl

theorem exec_setsharp (value : Half) (s : State) : exec (.setsharp value) s = execSetsharp value s := rfl

theorem exec_list (idx : BitVec 8) (s : State) : exec (.list idx) s = execList idx s := rfl

/-- The epilogue with `R_OK` of a command that is no `DECODE`, on a ready engine. -/
theorem endCommand_ok {t : State} (h : t.status.halt = false) :
    endCommand false .ok t =
      { t with status := ⟨false, true, false, false, .ok⟩, sp := ⟨.idle, 0, 0⟩, cmd := 0 } := by
  simp [endCommand, Status.ended, h, ResultCode.fatal, ScanPtr.home]

/-- A command that raises at once has no effect but on `STATUS`. -/
theorem endedWith_of_raise (w : Word) (code : ResultCode) (s : State) :
    EndedWith s (endCommand false code (beginCommand w s)) code := rfl

/-- What the host reads in `STATUS` after a command that raised on a ready engine (R26). -/
theorem word_of_endedWith {s t : State} {code : ResultCode} (h : EndedWith s t code) (hs : s.status.halt = false) :
    t.status.word = Status.word ⟨false, true, code.fatal, false, code⟩ := by
  rw [h, hs, Bool.false_or]

section
variable {s : State} (hs : s.status.halt = false)
include hs

/-- `SELECT` of a name that an entry has (R131). -/
theorem exec_select_match {a : Alg} (h : matchingEntry s = some a) :
    exec .select s = .next
      { selectEntry a s with status := ⟨false, true, false, false, .ok⟩, sp := ⟨.idle, 0, 0⟩, cmd := 0 } := by
  rw [exec_select, execSelect_ready hs, h]
  exact congrArg Host.Outcome.next (endCommand_ok hs)

/-- `SELECT` of a name that no entry has (R132). -/
theorem exec_select_unknown (h : matchingEntry s = none) :
    ∃ t, exec .select s = .next t ∧ EndedWith s t .unknownAlg := by
  rw [exec_select, execSelect_ready hs, h]
  exact ⟨_, rfl, endedWith_of_raise _ _ s⟩

/-- `SETSHARP` (R135). -/
theorem exec_setsharp_stores (value : Half) :
    exec (.setsharp value) s = .next { s with
      status := ⟨false, true, false, false, .ok⟩, sp := ⟨.idle, 0, 0⟩, cmd := 0, sharpness := value } := by
  rw [exec_setsharp, execSetsharp, runCommand_ready hs]
  exact congrArg Host.Outcome.next (endCommand_ok hs)

/-- `LIST` of an entry (R137). -/
theorem exec_list_entry {idx : BitVec 8} {a : Alg} (h : allAlgs[idx.toNat]? = some a) :
    exec (.list idx) s = .next
      { listEntry idx a s with status := ⟨false, true, false, false, .ok⟩, sp := ⟨.idle, 0, 0⟩, cmd := 0 } := by
  rw [exec_list, execList_ready hs, h]
  exact congrArg Host.Outcome.next (endCommand_ok hs)

/-- `LIST` of an index past the entries (R138). -/
theorem exec_list_range {idx : BitVec 8} (h : allAlgs[idx.toNat]? = none) :
    ∃ t, exec (.list idx) s = .next t ∧ EndedWith s t .listRange := by
  rw [exec_list, execList_ready hs, h]
  exact ⟨_, rfl, endedWith_of_raise _ _ s⟩

end

/-- `SETSHARP` is the word `3 + (imm << 16)` (R135). -/
theorem setsharpWord_eq (v : Half) : BitVec.ofNat 32 (3 + 65536 * v.toNat) = commandWord 0x03#8 0#8 v := by
  have hv : (3 + 65536 * v.toNat) % 2 ^ 32 = 3 + 65536 * v.toNat := by omega
  apply eq_commandWord <;> simp only [BitVec.toNat_ofNat, hv] <;> omega

/-! ### The statements -/

/-- Settles O20: the rows of the statement are the names of the entries, so no entry is named. -/
theorem selectUnknownName : Obligations.SelectUnknownName := by
  intro s hname hs
  have hrows : (s.name0, s.name1, s.name2, s.name3) ∉ allAlgs.map entryWords := hname
  have hnone : matchingEntry s = none := matchingEntry_none fun a ha =>
    hrows ((padName_eq_nameOperand_iff s a).1 ha ▸ List.mem_map_of_mem (mem_allAlgs a))
  obtain ⟨t, hrun, hend⟩ := exec_select_unknown hs hnone
  exact ⟨t, hrun, hend, word_of_endedWith hend hs⟩

/-- Settles O19: each row of the statement is the row of an entry, which is the one that the name matches. -/
theorem selectKnownName : Obligations.SelectKnownName := by
  intro s n0 n1 n2 id8 id10 hrow hs h0 h1 h2 h3
  obtain ⟨a, -, ha⟩ : ∃ a ∈ allAlgs,
      (packedWord (padName (algName a)) 0, packedWord (padName (algName a)) 1, packedWord (padName (algName a)) 2,
        a.id, if algHas10 a then a.id else noKernelId) = (n0, n1, n2, id8, id10) := List.mem_map.1 hrow
  cases ha
  have hname : padName (algName a) = nameOperand s := by
    rw [padName_eq_nameOperand_iff, h0, h1, h2, h3, entryWords, packedWord_three]
  exact exec_select_match hs (matchingEntry_of_name hname)

/-- Settles O21: the word is the one `SETSHARP` word with this immediate. -/
theorem setSharpStores : Obligations.SetSharpStores := fun s v =>
  ⟨by rw [setsharpWord_eq, decode_setsharpWord], fun hs => exec_setsharp_stores hs v⟩

/-- Settles O22: each row of the table is the row of an entry, at its id. -/
theorem listEntries : Obligations.ListEntries := by
  intro s idx l0 l1 l2 flags hrow hs
  obtain ⟨a, -, ha⟩ : ∃ a ∈ allAlgs,
      (a.id.setWidth 8, packedWord (padName (algName a)) 0, packedWord (padName (algName a)) 1,
        packedWord (padName (algName a)) 2, listFlags (a.id.setWidth 8) a) = (idx, l0, l1, l2, flags) :=
    List.mem_map.1 hrow
  cases ha
  rw [exec_list_entry hs (allAlgs_getElem?_id a), listEntry, packedWord_three]

/-- Settles O23: the list of entries ends before such an index. -/
theorem listOutOfRange : Obligations.ListOutOfRange := by
  intro s idx hidx hs
  have hnone : allAlgs[idx.toNat]? = none := List.getElem?_eq_none hidx
  obtain ⟨t, hrun, hend⟩ := exec_list_range hs hnone
  exact ⟨t, hrun, hend, word_of_endedWith hend hs⟩

end Sys2Proof
end

