-- ==== Sys2Proof/Proofs/GptmLaws.lean ====
section
/-! PROOFS. The two settings of `SHARPNESS` at which `gptm` is another kernel (R209, R211). The row is determined by the
six weights, so each statement is a fact about the weights at that setting. -/

namespace Sys2Proof

open Sys2Proof.Machine

/-! ### The kernel rows (R205, R208, R162) -/

theorem exec_gptm8 (s : State) :
    exec .gptm8 s = runKernelRow .d8 (adaptivePixel (gptmWeights s.sharpness) .d8) s := rfl

theorem exec_gptmFast8 (s : State) : exec .gptmFast8 s = runKernelRow .d8 (adaptivePixel baseWeights .d8) s := rfl

theorem exec_ip8 (s : State) : exec .ip8 s = runKernelRow .d8 (ipPixel .d8) s := rfl

/-- A kernel row reads its pixels in the state it starts from only (R65). -/
theorem runKernelRow_congr {d : Depth} {p q : State → Nat → Nat → Rgb} {s : State}
    (h : ∀ y x, p s y x = q s y x) : runKernelRow d p s = runKernelRow d q s := by
  have hpixel : p s = q s := funext fun y => funext fun x => h y x
  simp only [runKernelRow, kernelPass, hpixel]

/-! ### The weights (R201) -/

/-- The weights with which the detail term has no part in an estimate. -/
def zeroWeights : Weights := ⟨0, 0, 0, 0, 0, 0⟩

theorem sharpSquare_mono {a b : Nat} (h : a ≤ b) : sharpSquare a ≤ sharpSquare b :=
  Nat.div_le_div_right (Nat.mul_le_mul h h)

theorem scaledWeight_eq_zero_iff (k wu : Nat) : scaledWeight k wu = 0 ↔ k * wu < 1024 := by
  unfold scaledWeight; omega

/-- The largest base constant decides: `192 * 5 < 1024 ≤ 192 * 6` (R209). -/
theorem gptmWeights_eq_zero_iff (v : Half) :
    gptmWeights v = zeroWeights ↔ sharpSquare (sharpSquare v.toNat) ≤ 5 := by
  simp only [gptmWeights, zeroWeights, Weights.mk.injEq, scaledWeight_eq_zero_iff, baseWeights]
  omega

theorem gptmWeights_low {v : Half} (h : v.toNat ≤ 4096) : gptmWeights v = zeroWeights := by
  rw [gptmWeights_eq_zero_iff]
  calc sharpSquare (sharpSquare v.toNat)
      ≤ sharpSquare (sharpSquare 4096) := sharpSquare_mono (sharpSquare_mono h)
    _ ≤ 5 := by decide

/-- At the optimal setting `wu` is 1024, the one of the fixed-point numbers (R201, R202). -/
theorem gptmWeights_optimal : gptmWeights 23171#16 = baseWeights := by decide

/-! ### Without weights the adaptive estimate is bilinear (R209) -/

section
variable {d : Depth} {s : State} (hs : ∀ y x, sample d s y x ≤ maxSample d)
include hs

theorem est2_zero_nb (y x : Nat) (dy dx dy' dx' : Int) (dt : Int) :
    est2 d (nb d s y x dy dx + nb d s y x dy' dx') 0 dt = avg2 (nb d s y x dy dx) (nb d s y x dy' dx') := by
  have hnb : ∀ e f, nb d s y x e f ≤ maxSample d := fun _ _ => hs _ _
  have h := hnb dy dx
  have h' := hnb dy' dx'
  rw [est2_zero dt (by omega), avg2]

theorem est4_zero_orth (y x : Nat) (dt : Int) :
    est4 d (nb d s y x 0 (-1) + nb d s y x 0 1 + (nb d s y x (-1) 0 + nb d s y x 1 0)) 0 dt =
      avg4 (nb d s y x (-1) 0) (nb d s y x 1 0) (nb d s y x 0 (-1)) (nb d s y x 0 1) := by
  have hnb : ∀ e f, nb d s y x e f ≤ maxSample d := fun _ _ => hs _ _
  have hl := hnb 0 (-1)
  have hr := hnb 0 1
  have hu := hnb (-1) 0
  have hd := hnb 1 0
  rw [est4_zero dt (by omega), avg4]
  omega

theorem est4_zero_diag (y x : Nat) (dt : Int) :
    est4 d (diagSum d s y x) 0 dt =
      avg4 (nb d s y x (-1) (-1)) (nb d s y x (-1) 1) (nb d s y x 1 (-1)) (nb d s y x 1 1) := by
  have hnb : ∀ e f, nb d s y x e f ≤ maxSample d := fun _ _ => hs _ _
  have hul := hnb (-1) (-1)
  have hur := hnb (-1) 1
  have hdl := hnb 1 (-1)
  have hdr := hnb 1 1
  rw [diagSum, est4_zero dt (by omega), avg4]

/-- At each kind of site the estimates without weights are the means `ip` takes, over the same neighbours. -/
theorem adaptivePixel_zeroWeights (y x : Nat) : adaptivePixel zeroWeights d s y x = ipPixel d s y x := by
  unfold adaptivePixel ipPixel zeroWeights
  cases siteKind y x with
  | gr => simp only [est2_zero_nb hs]
  | r => simp only [est4_zero_orth hs, est4_zero_diag hs]
  | b => simp only [est4_zero_orth hs, est4_zero_diag hs]
  | gb => simp only [est2_zero_nb hs]

end

/-! ### The statements -/

/-- Settles O50: at depth 8 every sample is in range, so `gptm` without weights is `ip`; the threshold is that of the
largest base constant. -/
theorem lowSharpnessIsBilinear : Obligations.LowSharpnessIsBilinear := by
  refine ⟨fun s h => ?_, fun v h => gptmWeights_low h, gptmWeights_eq_zero_iff⟩
  rw [exec_gptm8, exec_ip8, gptmWeights_low h]
  exact runKernelRow_congr (adaptivePixel_zeroWeights (sample8_le s))

/-- Settles O51: at this setting the weights of `gptm` are the fixed weights. -/
theorem optimalSharpnessIsFast : Obligations.OptimalSharpnessIsFast := by
  intro s h
  rw [exec_gptm8, exec_gptmFast8, h, gptmWeights_optimal]

end Sys2Proof
end

section
/-! PROOFS. The checks of `DECODE` in their order, the fallback, and the kernel row a step fetches (R222 to R228, R305,
R333). Every `DECODE` is one command of its tag, so each statement is a fact about `decodeCommand`. -/

namespace Sys2Proof.DispatcherCommon

open Sys2Proof.Machine

/-! ### A `DECODE` is the command of its tag (R222, R224) -/

/-- An instruction whose common steps see `f` is the command of a tag that resolves to `f`. -/
theorem exec_of_decodesAs {i : Instr} {f : Format} (h : DecodesAs i f) :
    ∃ arg b, resolve arg = (f, b) ∧ ∀ s, exec i s = .next (decodeCommand arg s) := by
  obtain rfl | ⟨rfl, tag, htag, rfl⟩ := h
  · exact ⟨f.tag, false, resolve_tag f, exec_instr f⟩
  · exact ⟨tag, true, resolve_unrecognised (ofTag_eq_none htag), fun _ => rfl⟩

/-! ### A failing check (R226, R228, R225, R235) -/

/-- A check raises an error, never `R_OK`. -/
theorem ne_ok_of_check {f : Format} {s : State} {code : ResultCode} (h : decodeCheck f s = some code) :
    code ≠ .ok := by
  obtain rfl | rfl | rfl := decodeCheck_code h <;> decide

/-- A `DECODE` on a ready engine whose first failing check raises `code` has no effect but on `STATUS`. -/
theorem decodeCommand_endedWith {arg : BitVec 8} {s : State} {code : ResultCode} (hs : s.status.halt = false)
    (h : decodeCheck (resolve arg).1 s = some code) :
    EndedWith s (decodeCommand arg s) code ∧
      (decodeCommand arg s).status.word = Status.word ⟨false, true, code.fatal, false, code⟩ := by
  have hend : EndedWith s (decodeCommand arg s) code := decodeCommand_error hs h
  exact ⟨hend, word_of_endedWith hend hs⟩

theorem exec_endedWith {i : Instr} {f : Format} {s : State} {code : ResultCode} (hi : DecodesAs i f)
    (hs : s.status.halt = false) (h : decodeCheck f s = some code) :
    ∃ t, exec i s = .next t ∧ EndedWith s t code ∧
      t.status.word = Status.word ⟨false, true, code.fatal, false, code⟩ := by
  obtain ⟨arg, b, hr, hexec⟩ := exec_of_decodesAs hi
  exact ⟨_, hexec s, decodeCommand_endedWith hs (by rw [hr]; exact h)⟩

/-- Settles O52: the geometry check is the first, and fails exactly when a condition of R226 does. -/
theorem geometryErrorEnds : Obligations.GeometryErrorEnds := fun _ _ _ hi hs hbad =>
  exec_endedWith hi hs (decodeCheck_geometry hbad)

/-- Settles O53: behind a passing geometry check the buffer check stands before the kernel check. -/
theorem bufferErrorEnds : Obligations.BufferErrorEnds := fun _ _ _ hi hs hgeom hbad =>
  exec_endedWith hi hs (decodeCheck_buffer hgeom hbad)

/-- Settles O54: an empty slot holds no kernel, and `F_NO_KERNEL` is fatal. -/
theorem emptySlotHalts : Obligations.EmptySlotHalts := fun _ _ hs hgeom hbuf hslot =>
  exec_endedWith (.inl rfl) hs (decodeCheck_slot hgeom hbuf (kernelMissing_of_slotEmpty hslot))

/-! ### The fallback (R224) -/

/-- The conditions of a single-plane `DECODE` with two bytes per pixel and an even width are the checks of `YUYV`. -/
theorem checksPass_yuyv {s : State} (h : SinglePlane s 2) (heven : s.width.toNat % 2 = 0) : ChecksPass .yuyv s := by
  obtain ⟨-, hw, hh, hst, hraw, hrgb, hsrc, hdst⟩ := h
  refine ⟨?_, ?_, ?_⟩
  · simp [GeometryBad, bytesPerPixel, bayer8Formats, bayer10Formats]
    omega
  · simp only [BufferBad, sourceNeed, bytesPerPixel]
    omega
  · simp [SlotEmpty, bayer8Formats, bayer10Formats]

/-- A tag in the value field of a log entry (R224). -/
theorem setWidth_eq_append (tag : BitVec 8) : tag.setWidth 16 = 0#8 ++ tag := by
  revert tag; decide

/-- Settles O34: the tag resolves to `YUYV` with the fallback warning, and `YUYV` is scanned. -/
theorem decodesFallback : Obligations.DecodesFallback := by
  intro s tag htag hplane heven
  have hresolve : resolve tag = (.yuyv, true) := resolve_unrecognised (ofTag_eq_none htag)
  have hcheck : decodeCheck .yuyv s = none :=
    decodeCheck_pass (checksPass_yuyv hplane heven) (kernelMissing_plain rfl s)
  rw [setWidth_eq_append]
  exact ⟨_, rfl, decodeCommand_scan hresolve rfl hplane.1 hcheck⟩

/-! ### The kernel row of a step (R98, R300, R305) -/

/-- The key fetched under the word of a Bayer `DECODE` is that of the slot and the depth of its tag. -/
theorem pendingKey_of_word {s : State} {f : Format} {d : Depth} {p : CfaPhase}
    (hcmd : s.cmd.toNat = 1 + 256 * f.tag.toNat) (hb : bayerTag f = some (d, p)) :
    pendingKey s = kernelKey (slotFor d s) d := by
  have harg : flightArg s = f.tag := BitVec.eq_of_toNat_eq (by
    have := f.tag.isLt
    rw [flightArg, toNat_argOf]; omega)
  have hdepth : flightDepth s = d := by simp [flightDepth, flightFormat, harg, hb]
  rw [pendingKey, hdepth]

/-- The key of a kernel that exists decodes to its row (R98). -/
theorem decode_kernelKey {a : Alg} {d : Depth} {i : Instr} (h : kernelInstr a d = some i) :
    decode (.kernel (kernelKey a.id d)) = .ok i := by
  obtain ⟨hencode, hwf⟩ := encode_kernelInstr h
  rw [← hencode]
  exact encodeDecodeAgree i hwf

/-- Settles O7: the word fixes the depth, the depth the slot, and the slot the key that the step fetches. -/
theorem stepRunsKernel : Obligations.StepRunsKernel := by
  intro s f d p a i hphase hcmd hb hslot hkernel
  have hkey : pendingKey s = kernelKey a.id d := by
    rw [pendingKey_of_word hcmd hb, ← hslot]
    cases d <;> rfl
  rw [step_kernelRow hphase (by rw [hkey]; exact decode_kernelKey hkernel)]
  exact completeKernel_eq _

end Sys2Proof.DispatcherCommon
end

section
/-! PROOFS. What a `DECODE` that passes its checks shows, as a function of its input (R221, R229, R232, R237): the log,
the source bytes and the image. Two states with the same input show the same (R240); `SWAP_RB` is no part of the input,
only of the byte order (R233). -/

namespace Sys2Proof.DispatcherCommon

open Sys2Proof.Machine

/-! ### The result of a passing `DECODE` -/

/-- The warnings of the tag (R224, R229, R301). -/
def tagLog (f : Format) (fellBack : Bool) (arg : BitVec 8) : List DiagEntry :=
  match bayerTag f with
  | some (_, p) => phaseLog p arg
  | none => scanLog fellBack arg

/-- The range warnings of a format: those of the plane for a Bayer format, none for another (R304). -/
def planeLog (f : Format) (s : State) : List DiagEntry :=
  match bayerTag f with
  | some (d, _) => rangeLog d s s.width.toNat 0 (pixelCount s)
  | none => []

/-- The state from which the output is painted: a Bayer plane is normalised first (R300). -/
def sourceAfter (f : Format) (s : State) : State :=
  match bayerTag f with
  | some (d, _) => normPass d s.width.toNat (pixelCount s) 0 s
  | none => s

/-- The output pixels of a format: the scan's, or those of the selected kernel on the normalised plane (R237, R305). -/
def shownPixel (f : Format) (s : State) : Nat → Nat → Rgb :=
  match bayerTag f with
  | some (d, _) =>
    match selectedKernel d s with
    | some a => kernelPixel a d (sourceAfter f s)
    | none => fun _ _ => ⟨0, 0, 0⟩
  | none => scanPixel f s

/-- `t` is `s` after a `DECODE` that completed with the warnings `log`, in what R240 speaks of. -/
structure Decoded (s t : State) (log : List DiagEntry) (raw : Memory) (pixel : Nat → Nat → Rgb) : Prop where
  status : t.status = ⟨false, true, false, decide (BitVec.ofNat 32 log.length ≠ 0), .ok⟩
  warnCount : t.warnCount = BitVec.ofNat 32 log.length
  diag : t.diag = s.diag ++ log
  raw : t.raw = raw
  image : Painted s t pixel

section
variable {f : Format} {d : Depth} {p : CfaPhase}

theorem tagLog_bayer (hb : bayerTag f = some (d, p)) (b : Bool) (arg : BitVec 8) : tagLog f b arg = phaseLog p arg := by
  simp [tagLog, hb]

theorem tagLog_plain (hb : bayerTag f = none) (b : Bool) (arg : BitVec 8) : tagLog f b arg = scanLog b arg := by
  simp [tagLog, hb]

theorem planeLog_bayer (hb : bayerTag f = some (d, p)) (s : State) :
    planeLog f s = rangeLog d s s.width.toNat 0 (pixelCount s) := by simp [planeLog, hb]

theorem planeLog_plain (hb : bayerTag f = none) (s : State) : planeLog f s = [] := by simp [planeLog, hb]

theorem sourceAfter_bayer (hb : bayerTag f = some (d, p)) (s : State) :
    sourceAfter f s = normPass d s.width.toNat (pixelCount s) 0 s := by simp [sourceAfter, hb]

theorem sourceAfter_plain (hb : bayerTag f = none) (s : State) : sourceAfter f s = s := by simp [sourceAfter, hb]

theorem shownPixel_bayer (hb : bayerTag f = some (d, p)) {s : State} {a : Alg} (ha : selectedKernel d s = some a) :
    shownPixel f s = kernelPixel a d (sourceAfter f s) := by simp [shownPixel, hb, ha]

theorem shownPixel_plain (hb : bayerTag f = none) (s : State) : shownPixel f s = scanPixel f s := by
  simp [shownPixel, hb]

end

/-- The source pass changes `RAW`, `SP`, `DIAG` and `WARN_COUNT` only (R303). -/
theorem sourceAfter_frame (f : Format) (s : State) :
    sourceAfter f s =
      { s with
        raw := (sourceAfter f s).raw, sp := (sourceAfter f s).sp
        diag := (sourceAfter f s).diag, warnCount := (sourceAfter f s).warnCount } := by
  unfold sourceAfter
  split
  · exact normPass_frame _ _ _ _ _
  · rfl

/-- A slot that selects a kernel holds its id (R98, R305). -/
theorem slotFor_of_selected {d : Depth} {s : State} {a : Alg} (h : selectedKernel d s = some a) :
    slotFor d s = a.id := by
  unfold selectedKernel at h
  generalize slotFor d s = slot at h ⊢
  revert slot
  cases a <;> cases d <;> decide

/-- A passing kernel check has selected a kernel (R225). -/
theorem exists_selected {f : Format} {d : Depth} {p : CfaPhase} {s : State} (hb : bayerTag f = some (d, p))
    (hk : kernelMissing f s = false) : ∃ a, selectedKernel d s = some a := by
  rw [kernelMissing_bayer hb] at hk
  exact Option.isSome_iff_exists.1 (by simpa using hk)

/-- The path of a format with its kernel is one raster pass over the source it left (R236, R237). -/
theorem runPath_eq_paint {f : Format} {s : State} (hk : kernelMissing f s = false) :
    ∃ ph, runPath f s =
      paint ph (sourceAfter f s).width.toNat (shownPixel f s) (pixelCount (sourceAfter f s)) 0 (sourceAfter f s) := by
  cases hb : bayerTag f with
  | none =>
    rw [runPath_scan hb, sourceAfter_plain hb, shownPixel_plain hb]
    exact ⟨.scan, rfl⟩
  | some dp =>
    obtain ⟨d, p⟩ := dp
    obtain ⟨a, ha⟩ := exists_selected hb hk
    have hsel : selectedKernel d (sourceAfter f s) = some a := by
      rw [sourceAfter_frame, ← ha]
      cases d <;> rfl
    rw [runPath_bayer hb, bayerPath, ← sourceAfter_bayer hb, reconstruct, hsel, shownPixel_bayer hb ha]
    exact ⟨.kern, rfl⟩

/-- The commit in one form for every tag: the warnings of the tag, and what the prologue sets (R229, R330). -/
theorem committed_eq {arg : BitVec 8} {f : Format} {b : Bool} (hr : resolve arg = (f, b)) (s : State) :
    committed f b arg s =
      { s with
        status := s.status.accepted, cmd := decodeWord arg, sp := ⟨.check, 0, 0⟩
        warnCount := BitVec.ofNat 32 (tagLog f b arg).length, diag := s.diag ++ tagLog f b arg } := by
  cases hb : bayerTag f with
  | none => rw [tagLog_plain hb]; exact committed_plain hb b arg s
  | some dp =>
    have hrow : b = false := by
      unfold resolve at hr
      split at hr <;> cases hr
      · rfl
      · cases hb
    rw [tagLog_bayer hb, hrow]
    exact committed_bayer hb arg s

/-! ### The plane of a Bayer format (R223, R226) -/

section
variable {f : Format} {d : Depth} {p : CfaPhase} (hb : bayerTag f = some (d, p))
include hb

theorem bytesPerPixel_bayer : bytesPerPixel f = containerBytes d := by cases f <;> cases hb <;> rfl

theorem sourceNeed_bayer (w h st : Nat) : sourceNeed f w h st = (h - 1) * st + containerBytes d * w := by
  rw [← bytesPerPixel_bayer hb]
  cases f <;> cases hb <;> rfl

theorem bayer_geometry {w h st : Nat} (hg : ¬GeometryBad f w h st) : 0 < w ∧ containerBytes d * w ≤ st := by
  unfold GeometryBad at hg
  have hp : 0 < containerBytes d := by cases d <;> decide
  rw [bytesPerPixel_bayer hb] at hg
  exact ⟨by omega, by omega⟩

end

/-- The log after the source pass (R304). -/
theorem sourceAfter_log {f : Format} {s : State} (hg : ¬GeometryBad f s.width.toNat s.height.toNat s.stride.toNat) :
    (sourceAfter f s).diag = s.diag ++ planeLog f s ∧
      (sourceAfter f s).warnCount = s.warnCount + BitVec.ofNat 32 (planeLog f s).length := by
  cases hb : bayerTag f with
  | none => simp [sourceAfter_plain hb, planeLog_plain hb]
  | some dp =>
    obtain ⟨d, p⟩ := dp
    obtain ⟨hw, hst⟩ := bayer_geometry hb hg
    rw [sourceAfter_bayer hb, planeLog_bayer hb]
    exact normPass_log hw _ _ s hst

/-! ### Two passes side by side (R303) -/

/-- A relation between two states that each normalised sample keeps is kept by the whole pass. -/
theorem normPass_rel {R : State → State → Prop} {d : Depth} {w n k : Nat}
    (hR : ∀ j u v, k ≤ j → j < k + n → R u v →
      R (normalise d (j / w) (j % w) (setSp .norm (j / w) (j % w) u))
        (normalise d (j / w) (j % w) (setSp .norm (j / w) (j % w) v)))
    {s t : State} (h : R s t) : R (normPass d w n k s) (normPass d w n k t) := by
  induction n generalizing k s t with
  | zero => exact h
  | succ n ih =>
    exact ih (fun j u v h1 h2 => hR j u v (by omega) (by omega)) (hR k s t (Nat.le_refl _) (by omega) h)

/-- The registers that the normalisation of a sample reads are the same (R302, R303). -/
structure SameScale (s t : State) : Prop where
  stride : t.stride = s.stride
  brightness : t.brightness = s.brightness
  highBits : highBits t = highBits s

theorem SameScale.normalise {s t : State} (h : SameScale s t) (d : Depth) (y x : Nat) :
    SameScale (normalise d y x (setSp .norm y x s)) (normalise d y x (setSp .norm y x t)) := by
  constructor <;> rw [normalise_frame d y x (setSp .norm y x t), normalise_frame d y x (setSp .norm y x s)]
  exacts [h.stride, h.brightness, h.highBits]

theorem shiftedSample_of_sample {d : Depth} {s t : State} (hh : highBits t = highBits s) {y x : Nat}
    (h : sample d t y x = sample d s y x) : shiftedSample d t y x = shiftedSample d s y x := by
  have hshift : precisionShift d t = precisionShift d s := by cases d <;> simp [precisionShift, hh]
  rw [shiftedSample, shiftedSample, hshift, h]

theorem SameScale.normalised {d : Depth} {s t : State} (hst : SameScale s t) {y x : Nat}
    (h : sample d t y x = sample d s y x) : normalised d t y x = normalised d s y x := by
  rw [Machine.normalised, Machine.normalised, hst.brightness, shiftedSample_of_sample hst.highBits h]

/-- The pass over equal memories with equal registers leaves equal memories. -/
theorem normPass_raw_eq {d : Depth} {w n k : Nat} {s t : State} (h : SameScale s t) (hr : t.raw = s.raw) :
    (normPass d w n k t).raw = (normPass d w n k s).raw := by
  refine (normPass_rel (R := fun u v => SameScale u v ∧ v.raw = u.raw) (fun j u v _ _ huv => ?_) ⟨h, hr⟩).2
  obtain ⟨hscale, hraw⟩ := huv
  refine ⟨hscale.normalise .., ?_⟩
  have hsample : sample d (setSp .norm (j / w) (j % w) v) (j / w) (j % w) =
      sample d (setSp .norm (j / w) (j % w) u) (j / w) (j % w) :=
    sample_congr hscale.stride fun b _ _ => readRaw_congr hraw b
  have hvalue := SameScale.normalised (s := setSp .norm (j / w) (j % w) u) (t := setSp .norm (j / w) (j % w) v)
    ⟨hscale.stride, hscale.brightness, hscale.highBits⟩ hsample
  rw [normalise_raw, normalise_raw, hvalue]
  exact writeSample_raw_congr hraw hscale.stride

/-- `RAW` of `t` holds what `RAW` of `s` holds below `n`. -/
def AgreeBelow (n : Nat) (s t : State) : Prop := ∀ a < n, readRaw t a = readRaw s a

theorem AgreeBelow.writeRaw {n : Nat} {s t : State} (h : AgreeBelow n s t) (b : Nat) (v : Byte) :
    AgreeBelow n (writeRaw b v s) (writeRaw b v t) := by
  intro a ha
  by_cases hab : a = b
  · subst hab
    rw [readRaw_writeRaw_same, readRaw_writeRaw_same]
  · rw [readRaw_writeRaw_other v t hab, readRaw_writeRaw_other v s hab, h a ha]

theorem AgreeBelow.writeSample {n : Nat} {s t : State} (h : AgreeBelow n s t) (hst : t.stride = s.stride) (d : Depth)
    (y x v : Nat) : AgreeBelow n (writeSample d y x v s) (writeSample d y x v t) := by
  cases d with
  | d8 =>
    have haddr : sampleAddr .d8 t y x = sampleAddr .d8 s y x := by simp [sampleAddr, hst]
    rw [Machine.writeSample, Machine.writeSample, haddr]
    exact h.writeRaw _ _
  | d10 =>
    have haddr : sampleAddr .d10 t y x = sampleAddr .d10 s y x := by simp [sampleAddr, hst]
    rw [Machine.writeSample, Machine.writeSample, haddr]
    exact (h.writeRaw _ _).writeRaw _ _

/-- A sample inside the agreeing bytes is the same. -/
theorem AgreeBelow.sample {n : Nat} {s t : State} (h : AgreeBelow n s t) (hst : t.stride = s.stride) {d : Depth}
    {y x : Nat} (hn : sampleAddr d t y x + containerBytes d ≤ n) : sample d t y x = sample d s y x :=
  sample_congr hst fun b _ hb => h b (by omega)

theorem AgreeBelow.normalise {n : Nat} {s t : State} (h : AgreeBelow n s t) (hst : SameScale s t) {d : Depth}
    {y x : Nat} (hn : sampleAddr d t y x + containerBytes d ≤ n) :
    AgreeBelow n (normalise d y x s) (normalise d y x t) := by
  intro a ha
  rw [readRaw_congr (normalise_raw d y x t), readRaw_congr (normalise_raw d y x s),
    hst.normalised (h.sample hst.stride hn)]
  exact h.writeSample hst.stride d y x _ a ha

/-- The pass over samples inside the agreeing bytes keeps them agreeing. -/
theorem AgreeBelow.normPass {N : Nat} {s t : State} (h : AgreeBelow N s t) (hst : SameScale s t) {d : Depth}
    {w n k : Nat} (hN : ∀ j, k ≤ j → j < k + n → sampleAddr d s (j / w) (j % w) + containerBytes d ≤ N) :
    AgreeBelow N (normPass d w n k s) (normPass d w n k t) := by
  refine (normPass_rel (R := fun u v => SameScale u v ∧ AgreeBelow N u v ∧ v.stride = s.stride)
    (fun j u v h1 h2 huv => ?_) ⟨hst, h, hst.stride⟩).2.1
  obtain ⟨hscale, hagree, hstride⟩ := huv
  refine ⟨hscale.normalise .., ?_, by rw [normalise_stride]; exact hstride⟩
  have hfit := hN j h1 h2
  rw [sampleAddr_eq, ← hstride] at hfit
  exact AgreeBelow.normalise (s := setSp .norm (j / w) (j % w) u) (t := setSp .norm (j / w) (j % w) v) hagree
    ⟨hscale.stride, hscale.brightness, hscale.highBits⟩ (by rw [sampleAddr_eq]; exact hfit)

end Sys2Proof.DispatcherCommon
end

section
/-! PROOFS. The pixels of the scanned formats and of the kernels read inside `src_need` only (R66, R223, R227): two
states of one geometry whose sources agree show the same pixels. -/

namespace Sys2Proof.DispatcherCommon

open Sys2Proof.Machine

/-- `t` has the geometry of `s` and, in the first `src_need` bytes of `RAW`, its source (R223, R227). -/
structure SameSource (f : Format) (s t : State) : Prop where
  width : t.width = s.width
  height : t.height = s.height
  stride : t.stride = s.stride
  source : AgreeBelow (sourceNeed f s.width.toNat s.height.toNat s.stride.toNat) s t

/-! ### The reads of a scanned pixel (R250, R280) -/

/-- Byte `l` of a row of `m` bytes lies inside the first `(H-1)*S + m` bytes (R227). -/
theorem row_lt {h y st l m : Nat} (hy : y < h) (hl : l < m) : y * st + l < (h - 1) * st + m := by
  have : y * st ≤ (h - 1) * st := Nat.mul_le_mul_right st (by omega)
  omega

section
variable {N : Nat} {s t : State} (h : AgreeBelow N s t)
include h

/-- A luma byte and a pair of chroma bytes (R253 to R255). -/
theorem pair_agree {l c : Nat} (hl : l < N) (hc : c + 1 < N) :
    readRaw t l = readRaw s l ∧ readRaw t c = readRaw s c ∧ readRaw t (c + 1) = readRaw s (c + 1) :=
  ⟨h l hl, h c (by omega), h (c + 1) hc⟩

/-- A luma byte in a plane of `n` bytes, and byte `i` of each of two chroma planes of `m` bytes behind it (R256 to
R263). -/
theorem planar_agree {n m l i : Nat} (hl : l < n) (hi : i < m) (hN : n + 2 * m ≤ N) :
    readRaw t l = readRaw s l ∧ readRaw t (n + i) = readRaw s (n + i) ∧
      readRaw t (n + m + i) = readRaw s (n + m + i) :=
  ⟨h _ (by omega), h _ (by omega), h _ (by omega)⟩

end

section
variable {f : Format} {s t : State} (h : SameSource f s t)
  (hg : ¬GeometryBad f s.width.toNat s.height.toNat s.stride.toNat) {y x : Nat} (hy : y < s.height.toNat)
  (hx : x < s.width.toNat)
include h hg hy hx

/-- Groups of two pixels (R251, R252). -/
theorem scanPixel_packed_agree (hf : f = .yuyv ∨ f = .uyvy) : scanPixel f t y x = scanPixel f s y x := by
  have heven : s.width.toNat % 2 = 0 := by
    by_contra hne
    exact hg (by obtain rfl | rfl := hf <;> simp [GeometryBad, hne])
  have hneed : sourceNeed f s.width.toNat s.height.toNat s.stride.toNat =
      (s.height.toNat - 1) * s.stride.toNat + 2 * s.width.toNat := by obtain rfl | rfl := hf <;> rfl
  have hgroup (j : Nat) (hj : 4 * (x / 2) + j < 2 * s.width.toNat) :
      readRaw t (y * s.stride.toNat + (4 * (x / 2) + j)) = readRaw s (y * s.stride.toNat + (4 * (x / 2) + j)) :=
    h.source _ (by rw [hneed]; exact row_lt hy hj)
  have h0 := hgroup 0 (by omega)
  have h1 := hgroup 1 (by omega)
  have h2 := hgroup 2 (by omega)
  have h3 := hgroup 3 (by omega)
  have hluma := hgroup (2 * (x % 2)) (by omega)
  have hluma' := hgroup (1 + 2 * (x % 2)) (by omega)
  simp only [← Nat.add_assoc, Nat.add_zero] at h0 h1 h2 h3 hluma hluma'
  obtain rfl | rfl := hf
  · simp only [scanPixel, fetchYuyv, h.stride, h1, h3, hluma]
  · simp only [scanPixel, fetchUyvy, h.stride, h0, h2, hluma']

/-- One chroma plane at half resolution both ways (R253, R254). -/
theorem scanPixel_semi420_agree (hf : f = .nv12 ∨ f = .nv21) : scanPixel f t y x = scanPixel f s y x := by
  have heven : s.width.toNat % 2 = 0 ∧ s.height.toNat % 2 = 0 := by
    by_contra hne
    exact hg (by obtain rfl | rfl := hf <;> simp [GeometryBad] <;> omega)
  have hneed : sourceNeed f s.width.toNat s.height.toNat s.stride.toNat =
      s.width.toNat * s.height.toNat + s.width.toNat * s.height.toNat / 2 := by obtain rfl | rfl := hf <;> rfl
  have hhalf := Nat.mul_div_assoc s.width.toNat (Nat.dvd_of_mod_eq_zero heven.2)
  have hluma := raster_lt hy hx
  have hchroma : y / 2 * s.width.toNat + (2 * (x / 2) + 1) < s.width.toNat * (s.height.toNat / 2) :=
    raster_lt (by omega) (by omega)
  obtain ⟨e0, e1, e2⟩ := pair_agree h.source (l := y * s.width.toNat + x)
    (c := s.width.toNat * s.height.toNat + y / 2 * s.width.toNat + 2 * (x / 2)) (by omega) (by omega)
  obtain rfl | rfl := hf
  · simp only [scanPixel, fetchNv12, lumaAt, pixelCount, h.width, h.height, e0, e1, e2]
  · simp only [scanPixel, fetchNv21, lumaAt, pixelCount, h.width, h.height, e0, e1, e2]

/-- One chroma plane at half horizontal resolution (R255). -/
theorem scanPixel_semi422_agree (hf : f = .nv16) : scanPixel f t y x = scanPixel f s y x := by
  subst hf
  have heven : s.width.toNat % 2 = 0 := by
    by_contra hne
    exact hg (by simp [GeometryBad, hne])
  have hneed : sourceNeed .nv16 s.width.toNat s.height.toNat s.stride.toNat =
      2 * (s.width.toNat * s.height.toNat) := Nat.mul_assoc ..
  have hluma := raster_lt hy hx
  have hchroma : y * s.width.toNat + (2 * (x / 2) + 1) < s.width.toNat * s.height.toNat :=
    raster_lt hy (by omega)
  obtain ⟨e0, e1, e2⟩ := pair_agree h.source (l := y * s.width.toNat + x)
    (c := s.width.toNat * s.height.toNat + y * s.width.toNat + 2 * (x / 2)) (by omega) (by omega)
  simp only [scanPixel, fetchNv16, lumaAt, pixelCount, h.width, h.height, e0, e1, e2]

/-- Two chroma planes at quarter horizontal resolution (R256, R257). -/
theorem scanPixel_planar411_agree (hf : f = .yuv411p ∨ f = .yvu411p) : scanPixel f t y x = scanPixel f s y x := by
  have hfour : s.width.toNat % 4 = 0 := by
    by_contra hne
    exact hg (by obtain rfl | rfl := hf <;> simp [GeometryBad, hne])
  have hquarter := Nat.div_mul_right_comm (Nat.dvd_of_mod_eq_zero hfour) s.height.toNat
  have hneed : s.width.toNat * s.height.toNat + 2 * (s.width.toNat * s.height.toNat / 4) ≤
      sourceNeed f s.width.toNat s.height.toNat s.stride.toNat := by
    rw [← hquarter, ← Nat.mul_assoc]
    obtain rfl | rfl := hf <;> exact Nat.le_refl _
  have hchroma : y * (s.width.toNat / 4) + x / 4 < s.width.toNat * s.height.toNat / 4 := by
    rw [← hquarter]; exact raster_lt hy (by omega)
  obtain ⟨e0, e1, e2⟩ := planar_agree h.source (raster_lt hy hx) hchroma hneed
  obtain rfl | rfl := hf
  · simp only [scanPixel, fetchYuv411p, lumaAt, pixelCount, h.width, h.height, e0, e1, e2]
  · simp only [scanPixel, fetchYvu411p, lumaAt, pixelCount, h.width, h.height, e0, e1, e2]

/-- Two chroma planes at half resolution both ways (R258, R259). -/
theorem scanPixel_planar420_agree (hf : f = .yuv420p ∨ f = .yvu420p) : scanPixel f t y x = scanPixel f s y x := by
  have heven : s.width.toNat % 2 = 0 ∧ s.height.toNat % 2 = 0 := by
    by_contra hne
    exact hg (by obtain rfl | rfl := hf <;> simp [GeometryBad] <;> omega)
  have hquarter : s.width.toNat / 2 * (s.height.toNat / 2) = s.width.toNat * s.height.toNat / 4 :=
    Nat.div_mul_div_comm (Nat.dvd_of_mod_eq_zero heven.1) (Nat.dvd_of_mod_eq_zero heven.2)
  have hneed : s.width.toNat * s.height.toNat + 2 * (s.width.toNat * s.height.toNat / 4) ≤
      sourceNeed f s.width.toNat s.height.toNat s.stride.toNat := by
    rw [← hquarter, ← Nat.mul_assoc]
    obtain rfl | rfl := hf <;> exact Nat.le_refl _
  have hchroma : y / 2 * (s.width.toNat / 2) + x / 2 < s.width.toNat * s.height.toNat / 4 := by
    rw [← hquarter]; exact raster_lt (by omega) (by omega)
  obtain ⟨e0, e1, e2⟩ := planar_agree h.source (raster_lt hy hx) hchroma hneed
  obtain rfl | rfl := hf
  · simp only [scanPixel, fetchYuv420p, lumaAt, pixelCount, h.width, h.height, e0, e1, e2]
  · simp only [scanPixel, fetchYvu420p, lumaAt, pixelCount, h.width, h.height, e0, e1, e2]

/-- Two chroma planes at half horizontal resolution (R260, R261). -/
theorem scanPixel_planar422_agree (hf : f = .yuv422p ∨ f = .yvu422p) : scanPixel f t y x = scanPixel f s y x := by
  have heven : s.width.toNat % 2 = 0 := by
    by_contra hne
    exact hg (by obtain rfl | rfl := hf <;> simp [GeometryBad, hne])
  have hhalf := Nat.div_mul_right_comm (Nat.dvd_of_mod_eq_zero heven) s.height.toNat
  have hneed : s.width.toNat * s.height.toNat + 2 * (s.width.toNat * s.height.toNat / 2) ≤
      sourceNeed f s.width.toNat s.height.toNat s.stride.toNat := by
    rw [← hhalf, ← Nat.mul_assoc]
    obtain rfl | rfl := hf <;> exact Nat.le_refl _
  have hchroma : y * (s.width.toNat / 2) + x / 2 < s.width.toNat * s.height.toNat / 2 := by
    rw [← hhalf]; exact raster_lt hy (by omega)
  obtain ⟨e0, e1, e2⟩ := planar_agree h.source (raster_lt hy hx) hchroma hneed
  obtain rfl | rfl := hf
  · simp only [scanPixel, fetchYuv422p, lumaAt, pixelCount, h.width, h.height, e0, e1, e2]
  · simp only [scanPixel, fetchYvu422p, lumaAt, pixelCount, h.width, h.height, e0, e1, e2]

omit hg in
/-- Three planes at full resolution (R262, R263). -/
theorem scanPixel_planar444_agree (hf : f = .yuv444p ∨ f = .yvu444p) : scanPixel f t y x = scanPixel f s y x := by
  have hneed : sourceNeed f s.width.toNat s.height.toNat s.stride.toNat =
      3 * (s.width.toNat * s.height.toNat) := by obtain rfl | rfl := hf <;> exact Nat.mul_assoc ..
  have hluma := raster_lt hy hx
  obtain ⟨e0, e1, e2⟩ := planar_agree h.source hluma hluma (by omega)
  rw [← Nat.two_mul] at e2
  obtain rfl | rfl := hf
  · simp only [scanPixel, fetchYuv444p, pixelCount, h.width, h.height, e0, e1, e2]
  · simp only [scanPixel, fetchYvu444p, pixelCount, h.width, h.height, e0, e1, e2]

omit hg in
/-- Byte `j` of a pixel of the single plane of a monochrome or RGB format (R280). -/
theorem plane_byte_agree (hf : sourceNeed f s.width.toNat s.height.toNat s.stride.toNat =
      (s.height.toNat - 1) * s.stride.toNat + bytesPerPixel f * s.width.toNat) {j : Nat} (hj : j < bytesPerPixel f) :
    readRaw t (planeAddr s (bytesPerPixel f) y x + j) = readRaw s (planeAddr s (bytesPerPixel f) y x + j) := by
  have hpixel : bytesPerPixel f * x + bytesPerPixel f ≤ bytesPerPixel f * s.width.toNat :=
    Nat.mul_le_mul_left _ (Nat.succ_le_of_lt hx)
  refine h.source _ ?_
  rw [hf, planeAddr, Nat.add_assoc]
  exact row_lt hy (by omega)

omit hg in
/-- The monochrome and RGB formats: each pixel is made of its own bytes (R281 to R292). -/
theorem scanPixel_plane_agree (hf : f ∈ [Format.grey8, .y10, .y12, .rgb332, .rgb555, .rgb565, .rgb555x, .rgb565x,
      .bgr24, .rgb24, .bgr32, .rgb32]) : scanPixel f t y x = scanPixel f s y x := by
  have haddr (p : Nat) : planeAddr t p y x = planeAddr s p y x := by rw [planeAddr, planeAddr, h.stride]
  have hneed : sourceNeed f s.width.toNat s.height.toNat s.stride.toNat =
      (s.height.toNat - 1) * s.stride.toNat + bytesPerPixel f * s.width.toNat := by
    fin_cases hf <;> rfl
  have hbyte (j : Nat) (hj : j < bytesPerPixel f) := plane_byte_agree h hy hx hneed hj
  have hfirst := hbyte 0 (by fin_cases hf <;> decide)
  rw [Nat.add_zero] at hfirst
  fin_cases hf <;> simp only [bytesPerPixel] at hbyte hfirst <;>
    simp [scanPixel, fetchGrey8, fetchY10, fetchY12, fetchRgb332, fetchRgb555, fetchRgb565, fetchRgb555x,
      fetchRgb565x, fetchBgr24, fetchRgb24, fetchBgr32, fetchRgb32, readRaw16, readRaw16BE, haddr, hfirst, hbyte]

/-- A scanned pixel is the same when the geometry is and the source bytes agree. -/
theorem scanPixel_agree (hb : bayerTag f = none) : scanPixel f t y x = scanPixel f s y x := by
  cases f with
  | yuyv => exact scanPixel_packed_agree h hg hy hx (.inl rfl)
  | uyvy => exact scanPixel_packed_agree h hg hy hx (.inr rfl)
  | nv12 => exact scanPixel_semi420_agree h hg hy hx (.inl rfl)
  | nv21 => exact scanPixel_semi420_agree h hg hy hx (.inr rfl)
  | nv16 => exact scanPixel_semi422_agree h hg hy hx rfl
  | yuv411p => exact scanPixel_planar411_agree h hg hy hx (.inl rfl)
  | yvu411p => exact scanPixel_planar411_agree h hg hy hx (.inr rfl)
  | yuv420p => exact scanPixel_planar420_agree h hg hy hx (.inl rfl)
  | yvu420p => exact scanPixel_planar420_agree h hg hy hx (.inr rfl)
  | yuv422p => exact scanPixel_planar422_agree h hg hy hx (.inl rfl)
  | yvu422p => exact scanPixel_planar422_agree h hg hy hx (.inr rfl)
  | yuv444p => exact scanPixel_planar444_agree h hy hx (.inl rfl)
  | yvu444p => exact scanPixel_planar444_agree h hy hx (.inr rfl)
  | grey8 | y10 | y12 | rgb332 | rgb555 | rgb565 | rgb555x | rgb565x | bgr24 | rgb24 | bgr32 | rgb32 =>
    exact scanPixel_plane_agree h hy hx (by decide)
  | sgrbg8 | srggb8 | sbggr8 | sgbrg8 | sgrbg10 | srggb10 | sbggr10 | sgbrg10 => cases hb

end

/-! ### The pixels of a kernel (R151, R152) -/

/-- The partner row of `horip` lies in the plane (R160). -/
theorem partnerRow_lt {y h : Nat} (hy : y < h) : partnerRow y h < h := by unfold partnerRow; split <;> omega

/-- A kernel's pixel is the same when the samples of the plane are, and for `gptm` also `SHARPNESS`. -/
theorem kernelPixel_agree {a : Alg} {d : Depth} {s t : State} (hw : t.width = s.width) (hh : t.height = s.height)
    (hv : a = .gptm → t.sharpness = s.sharpness)
    (hs : ∀ y x, y < s.height.toNat → x < s.width.toNat → sample d t y x = sample d s y x) {y x : Nat}
    (hy : y < s.height.toNat) (hx : x < s.width.toNat) : kernelPixel a d t y x = kernelPixel a d s y x := by
  have hc : sample d t y x = sample d s y x := hs y x hy hx
  have hnb (dy dx : Int) : nb d t y x dy dx = nb d s y x dy dx := by
    rw [nb, nb, hw, hh]
    exact hs _ _ (mirror_lt dy hy) (mirror_lt dx hx)
  have hadaptive (k : Weights) : adaptivePixel k d t y x = adaptivePixel k d s y x := by
    simp only [adaptivePixel, detail, diagSum, farSum, hc, hnb]
  cases a with
  | cottnoip => simp only [kernelPixel, cottnoipPixel, hc, hnb]
  | cott => simp only [kernelPixel, cottPixel, hc, hnb]
  | horip =>
    have hpartner (x' : Nat) (hx' : x' < s.width.toNat) :
        sample d t (partnerRow y s.height.toNat) x' = sample d s (partnerRow y s.height.toNat) x' :=
      hs _ _ (partnerRow_lt hy) hx'
    simp only [kernelPixel, horipPixel, hw, hh, hc, hnb, hpartner _ hx, hpartner _ (mirror_lt _ hx)]
  | ip => simp only [kernelPixel, ipPixel, hc, hnb]
  | gptm => rw [kernelPixel, gptmPixel, gptmPixel, hv rfl, hadaptive]
  | gptmFast => exact hadaptive baseWeights

end Sys2Proof.DispatcherCommon
end

section
/-! PROOFS. A `DECODE` is a function of its input (R240), and `SWAP_RB` exchanges two bytes of each pixel (R233). Both
statements compare two decodes; a decode is compared with its own commit point in the same way. -/

namespace Sys2Proof.DispatcherCommon

open Sys2Proof.Machine

/-- `t` has what the body of a `DECODE` of `f` reads in `s`, `SWAP_RB` apart: the geometry and the source,
`HIGH_BITS`, and for a Bayer format `BRIGHTNESS`, its slot, and `SHARPNESS` where `gptm` runs (R237, R240). -/
structure SameInput (f : Format) (s t : State) : Prop extends SameSource f s t where
  highBits : highBits t = highBits s
  bayer : ∀ d p, bayerTag f = some (d, p) →
    t.brightness = s.brightness ∧ slotFor d t = slotFor d s ∧
      (slotFor d s = Alg.gptm.id → t.sharpness = s.sharpness)

section
variable {f : Format} {s t : State} (h : SameInput f s t)
include h

theorem SameInput.scale {d : Depth} {p : CfaPhase} (hb : bayerTag f = some (d, p)) : SameScale s t :=
  ⟨h.stride, (h.bayer d p hb).1, h.highBits⟩

theorem SameInput.selectedKernel {d : Depth} {p : CfaPhase} (hb : bayerTag f = some (d, p)) :
    selectedKernel d t = selectedKernel d s := by
  rw [Machine.selectedKernel, Machine.selectedKernel, (h.bayer d p hb).2.1]

theorem SameInput.kernelMissing : kernelMissing f t = kernelMissing f s := by
  cases hb : bayerTag f with
  | none => rw [kernelMissing_plain hb, kernelMissing_plain hb]
  | some dp => rw [kernelMissing_bayer hb, kernelMissing_bayer hb, h.selectedKernel hb]

/-- The source after the source pass agrees as the source did before it (R303). -/
theorem SameInput.sourceAfter (hg : ¬GeometryBad f s.width.toNat s.height.toNat s.stride.toNat) :
    AgreeBelow (sourceNeed f s.width.toNat s.height.toNat s.stride.toNat) (sourceAfter f s) (sourceAfter f t) := by
  cases hb : bayerTag f with
  | none => rw [sourceAfter_plain hb, sourceAfter_plain hb]; exact h.source
  | some dp =>
    obtain ⟨d, p⟩ := dp
    have hw := (bayer_geometry hb hg).1
    rw [sourceAfter_bayer hb, sourceAfter_bayer hb, pixelCount, pixelCount, h.width, h.height]
    refine h.source.normPass (h.scale hb) fun j _ hj => ?_
    rw [sourceNeed_bayer hb]
    exact sampleAddr_bound (Nat.div_lt_of_lt_mul (by omega)) (Nat.mod_lt _ hw)

theorem SameInput.planeLog (hg : ¬GeometryBad f s.width.toNat s.height.toNat s.stride.toNat) :
    planeLog f t = planeLog f s := by
  cases hb : bayerTag f with
  | none => rw [planeLog_plain hb, planeLog_plain hb]
  | some dp =>
    obtain ⟨d, p⟩ := dp
    have hw := (bayer_geometry hb hg).1
    rw [planeLog_bayer hb, planeLog_bayer hb, pixelCount, pixelCount, h.width, h.height]
    refine List.filterMap_congr fun j hj => ?_
    have hj' := (List.mem_range'_1.1 hj).2
    have hfit : sampleAddr d t (j / s.width.toNat) (j % s.width.toNat) + containerBytes d ≤
        sourceNeed f s.width.toNat s.height.toNat s.stride.toNat := by
      rw [sourceNeed_bayer hb, ← h.stride]
      exact sampleAddr_bound (Nat.div_lt_of_lt_mul (by omega)) (Nat.mod_lt _ hw)
    simp only [rangeEntry, shiftedSample_of_sample h.highBits (h.source.sample h.stride hfit)]

/-- The image is the same, pixel for pixel. -/
theorem SameInput.shownPixel (hg : ¬GeometryBad f s.width.toNat s.height.toNat s.stride.toNat) {y x : Nat}
    (hy : y < s.height.toNat) (hx : x < s.width.toNat) : shownPixel f t y x = shownPixel f s y x := by
  cases hb : bayerTag f with
  | none =>
    rw [shownPixel_plain hb, shownPixel_plain hb]
    exact scanPixel_agree h.toSameSource hg hy hx hb
  | some dp =>
    obtain ⟨d, p⟩ := dp
    obtain ⟨-, -, hsharp⟩ := h.bayer d p hb
    cases ha : Machine.selectedKernel d s with
    | none =>
      have ha' := (h.selectedKernel hb).trans ha
      simp only [DispatcherCommon.shownPixel, hb, ha, ha']
    | some a =>
      rw [shownPixel_bayer hb ha, shownPixel_bayer hb ((h.selectedKernel hb).trans ha)]
      have hs := sourceAfter_frame f s
      have ht := sourceAfter_frame f t
      have hsw : (DispatcherCommon.sourceAfter f s).width = s.width := by rw [hs]
      have hsh : (DispatcherCommon.sourceAfter f s).height = s.height := by rw [hs]
      have hstride : (DispatcherCommon.sourceAfter f t).stride = (DispatcherCommon.sourceAfter f s).stride := by
        rw [hs, ht]; exact h.stride
      refine kernelPixel_agree (by rw [hs, ht]; exact h.width) (by rw [hs, ht]; exact h.height) ?_ ?_
        (by rw [hsh]; exact hy) (by rw [hsw]; exact hx)
      · rintro rfl
        rw [hs, ht]
        exact hsharp (slotFor_of_selected ha)
      · intro y' x' hy' hx'
        rw [hsh] at hy'
        rw [hsw] at hx'
        refine (h.sourceAfter hg).sample hstride ?_
        rw [sourceNeed_bayer hb, ← h.stride]
        have hst : (DispatcherCommon.sourceAfter f t).stride = t.stride := by rw [ht]
        rw [← hst]
        exact sampleAddr_bound hy' hx'

end

/-- The source pass over equal memories with equal registers leaves equal memories. -/
theorem sourceAfter_raw_eq {f : Format} {s t : State} (h : SameInput f s t) (hr : t.raw = s.raw) :
    (sourceAfter f t).raw = (sourceAfter f s).raw := by
  cases hb : bayerTag f with
  | none => rw [sourceAfter_plain hb, sourceAfter_plain hb]; exact hr
  | some dp =>
    rw [sourceAfter_bayer hb, sourceAfter_bayer hb, pixelCount, pixelCount, h.width, h.height]
    exact normPass_raw_eq (h.scale hb) hr

/-! ### The result of a passing `DECODE` -/

/-- The commit is no part of the input of the body (R229). -/
theorem sameInput_committed {arg : BitVec 8} {f : Format} {b : Bool} (hr : resolve arg = (f, b)) (s : State) :
    SameInput f s (committed f b arg s) := by
  rw [committed_eq hr]
  exact ⟨⟨rfl, rfl, rfl, fun _ _ => rfl⟩, rfl, fun d _ _ => ⟨rfl, by cases d <;> rfl, fun _ => rfl⟩⟩

/-- A `DECODE` that passes its checks logs the warnings of its tag and its plane, and shows its pixels on the source it
normalised (R221, R229, R237). -/
theorem decodeCommand_decoded {arg : BitVec 8} {f : Format} {b : Bool} {s : State} (hr : resolve arg = (f, b))
    (hs : s.status.halt = false) (hc : decodeCheck f s = none) :
    Decoded s (decodeCommand arg s) (tagLog f b arg ++ planeLog f s) (sourceAfter f s).raw (shownPixel f s) := by
  obtain ⟨hgeom, -, hkernel⟩ := decodeCheck_none.1 hc
  have hg := (geometryHolds_iff f s).1 hgeom
  have hin := sameInput_committed hr s
  have hrun := decodeCommand_pass (arg := arg) hs (by rw [hr]; exact hc)
  obtain ⟨ph, hpaint⟩ := runPath_eq_paint (hin.kernelMissing.trans hkernel)
  rw [hr, hpaint] at hrun
  have hlog := sourceAfter_log (f := f) (s := committed f b arg s) (by rw [hin.width, hin.height, hin.stride]; exact hg)
  rw [hin.planeLog hg] at hlog
  obtain ⟨hdiag, hcount⟩ := hlog
  have hcommit := committed_eq hr s
  have hwarn : (sourceAfter f (committed f b arg s)).warnCount =
      BitVec.ofNat 32 (tagLog f b arg ++ planeLog f s).length := by
    rw [hcount, List.length_append, BitVec.ofNat_add, hcommit]
  have hframe := sourceAfter_frame f (committed f b arg s)
  rw [hrun]
  refine ⟨?_, ?_, ?_, ?_, ?_⟩
  · rw [endCommand_status, paint_warnCount, paint_status, hwarn, hframe, hcommit]
    simp [Status.ended, Status.accepted, hs, ResultCode.fatal]
  · rw [endCommand_warnCount, paint_warnCount, hwarn]
  · rw [endCommand_diag, paint_frame]
    rw [hdiag, hcommit, List.append_assoc]
  · rw [endCommand_raw, paint_raw]
    exact sourceAfter_raw_eq hin (by rw [hcommit])
  · have hpainted := painted_paint (ph := ph) (pixel := shownPixel f (committed f b arg s)) (s := s)
      (u := sourceAfter f (committed f b arg s)) (by rw [hframe, hcommit]) (by rw [hframe, hcommit])
      (by rw [hframe, hcommit]) (by rw [hframe, hcommit]) rfl
    exact Painted.congr hpainted fun y x hy hx => hin.shownPixel hg hy hx

end Sys2Proof.DispatcherCommon
end

section
/-! PROOFS. The swap law and the noninterference of `DECODE`, from the result of a passing decode as a function of its
input. -/

namespace Sys2Proof.DispatcherCommon

open Sys2Proof.Machine

/-! ### Two images side by side (R67, R232) -/

/-- `PixelShown` by address: `p` as the three bytes from `a` on, in the byte order `swap` (R232). -/
def ShownAt (t : State) (a : Nat) (swap : Bool) (p : Rgb) : Prop :=
  readRgb t a = (if swap then p.b else p.r) ∧ readRgb t (a + 1) = p.g ∧
    readRgb t (a + 2) = (if swap then p.r else p.b)

/-- Output pixel number `k` in raster order stands at `3*k` (R67). -/
theorem shownAt_of_painted {s t : State} {pixel : Nat → Nat → Rgb} (h : Painted s t pixel) {k : Nat}
    (hk : k < s.width.toNat * s.height.toNat) :
    ShownAt t (3 * k) (s.ctrl.getLsbD 0) (pixel (k / s.width.toNat) (k % s.width.toNat)) := by
  have hw : 0 < s.width.toNat := Nat.pos_of_mul_pos_right (Nat.zero_lt_of_lt hk)
  have hpixel := h.1 _ _ (Nat.div_lt_of_lt_mul hk) (Nat.mod_lt k hw)
  rwa [PixelShown, Nat.div_add_mod'] at hpixel

section
variable {s s' t t' : State} {pixel pixel' : Nat → Nat → Rgb} (h : Painted s t pixel) (h' : Painted s' t' pixel')
  (hw : s'.width = s.width) (hh : s'.height = s.height)
  (hp : ∀ y x, y < s.height.toNat → x < s.width.toNat → pixel' y x = pixel y x)
include h h' hw hh hp

/-- The same pixel stands in both images, each in its own byte order. -/
theorem shownAt_both {k : Nat} (hk : k < s.width.toNat * s.height.toNat) :
    ∃ p, ShownAt t (3 * k) (s.ctrl.getLsbD 0) p ∧ ShownAt t' (3 * k) (s'.ctrl.getLsbD 0) p := by
  have hpos : 0 < s.width.toNat := Nat.pos_of_mul_pos_right (Nat.zero_lt_of_lt hk)
  have hshown' := shownAt_of_painted h' (k := k) (by rw [hw, hh]; exact hk)
  rw [hw, hp _ _ (Nat.div_lt_of_lt_mul hk) (Nat.mod_lt k hpos)] at hshown'
  exact ⟨_, shownAt_of_painted h hk, hshown'⟩

/-- The same pixels in the two byte orders: the outer bytes of each pixel are exchanged (R232). -/
theorem painted_exchanged (hc : s.ctrl.getLsbD 0 = false) (hc' : s'.ctrl.getLsbD 0 = true) {k : Nat}
    (hk : k < s.width.toNat * s.height.toNat) :
    readRgb t' (3 * k) = readRgb t (3 * k + 2) ∧ readRgb t' (3 * k + 1) = readRgb t (3 * k + 1) ∧
      readRgb t' (3 * k + 2) = readRgb t (3 * k) := by
  obtain ⟨p, ⟨h0, h1, h2⟩, h0', h1', h2'⟩ := shownAt_both h h' hw hh hp hk
  rw [hc] at h0 h2
  rw [hc'] at h0' h2'
  exact ⟨h0'.trans h2.symm, h1'.trans h1.symm, h2'.trans h0.symm⟩

/-- The same pixels in the same byte order are the same bytes. -/
theorem painted_same (hc : s'.ctrl = s.ctrl) {a : Nat} (ha : a < 3 * s.width.toNat * s.height.toNat) :
    readRgb t' a = readRgb t a := by
  rw [Nat.mul_assoc] at ha
  obtain ⟨p, ⟨h0, h1, h2⟩, h0', h1', h2'⟩ := shownAt_both h h' hw hh hp (k := a / 3) (by omega)
  rw [hc] at h0' h2'
  obtain hr | hr | hr : a = 3 * (a / 3) ∨ a = 3 * (a / 3) + 1 ∨ a = 3 * (a / 3) + 2 := by omega
  · rw [hr, h0, h0']
  · rw [hr, h1, h1']
  · rw [hr, h2, h2']

end

/-! ### The swap law (R233) -/

/-- `s` with `SWAP_RB` set (R24). -/
def withSwap (s : State) : State := { s with ctrl := s.ctrl ||| 1#2 }

theorem swapBit_withSwap (s : State) : (withSwap s).ctrl.getLsbD 0 = true := by simp [withSwap]

/-- `SWAP_RB` is no part of the input of the body. -/
theorem sameInput_withSwap (f : Format) (s : State) : SameInput f s (withSwap s) :=
  ⟨⟨rfl, rfl, rfl, fun _ _ => rfl⟩, by simp [highBits, withSwap],
    fun d _ _ => ⟨rfl, by cases d <;> rfl, fun _ => rfl⟩⟩

/-- Settles O58: a failing check is the same with the bit set, and changes `STATUS` only; a passing decode has the same
input, so the two images differ in their byte order alone. -/
theorem swapLaw : Obligations.SwapLaw := by
  intro s i f hi hc hs
  obtain ⟨arg, b, hr, hexec⟩ := exec_of_decodesAs hi
  refine ⟨_, _, hexec s, hexec (withSwap s), ?_⟩
  cases hcheck : decodeCheck f s with
  | some code =>
    have ht : decodeCommand arg s = _ := decodeCommand_error hs (by rw [hr]; exact hcheck)
    have ht' : decodeCommand arg (withSwap s) = _ :=
      decodeCommand_error (s := withSwap s) hs (by rw [hr]; exact hcheck)
    rw [ht, ht']
    exact ⟨rfl, rfl, rfl, rfl, fun hok => absurd hok (ne_ok_of_check hcheck), fun _ _ => rfl⟩
  | none =>
    have hin := sameInput_withSwap f s
    have hg := (geometryHolds_iff f s).1 (decodeCheck_none.1 hcheck).1
    have ht := decodeCommand_decoded hr hs hcheck
    have ht' := decodeCommand_decoded (s := withSwap s) hr hs hcheck
    rw [hin.planeLog hg] at ht'
    refine ⟨?_, ?_, ?_, ?_, fun _ k hk => ?_, fun a ha => ?_⟩
    · rw [ht.raw, ht'.raw, sourceAfter_raw_eq hin rfl]
    · rw [ht.diag, ht'.diag]; rfl
    · rw [ht.warnCount, ht'.warnCount]
    · rw [ht.status, ht'.status]
    · exact painted_exchanged ht.image ht'.image rfl rfl (fun _ _ hy hx => hin.shownPixel hg hy hx) hc
        (swapBit_withSwap s) hk
    · rw [ht.image.2 a ha, ht'.image.2 a ha]; rfl

/-! ### A `DECODE` is a function (R240) -/

/-- The source pass writes no byte at or beyond `src_need` (R66). -/
theorem readRaw_sourceAfter_beyond {f : Format} {s : State}
    (hg : ¬GeometryBad f s.width.toNat s.height.toNat s.stride.toNat) {a : Nat}
    (ha : sourceNeed f s.width.toNat s.height.toNat s.stride.toNat ≤ a) :
    readRaw (sourceAfter f s) a = readRaw s a := by
  cases hb : bayerTag f with
  | none => rw [sourceAfter_plain hb]
  | some dp =>
    obtain ⟨d, p⟩ := dp
    rw [sourceNeed_bayer hb] at ha
    rw [sourceAfter_bayer hb]
    refine readRaw_normPass_outside _ _ s fun j _ hj => .inr (Nat.le_trans ?_ ha)
    exact sampleAddr_bound (Nat.div_lt_of_lt_mul (by rw [pixelCount] at hj; omega))
      (Nat.mod_lt _ (bayer_geometry hb hg).1)

/-- The Bayer formats of each depth (R96). -/
theorem mem_bayerFormats {f : Format} {d : Depth} {p : CfaPhase} (hb : bayerTag f = some (d, p)) :
    (d = .d8 ∧ f ∈ bayer8Formats) ∨ (d = .d10 ∧ f ∈ bayer10Formats) := by
  cases f <;> cases hb <;> decide

/-- The checks read the geometry, the lengths, the sizes and the slot (R226, R228, R225). -/
theorem SameInput.decodeCheck {f : Format} {s t : State} (h : SameInput f s t) (hraw : t.rawLen = s.rawLen)
    (hrgb : t.rgbLen = s.rgbLen) (hrawSize : t.rawSize = s.rawSize) (hrgbSize : t.rgbSize = s.rgbSize) :
    decodeCheck f t = decodeCheck f s := by
  have hgeom : geometryHolds (classOf f) t = geometryHolds (classOf f) s := by
    rw [geometryHolds, geometryHolds, h.width, h.height, h.stride]
  have hbuf : buffersHold (classOf f) t = buffersHold (classOf f) s := by
    rw [buffersHold, buffersHold, sourceBytes, sourceBytes, outputBytes, outputBytes, h.width, h.height, h.stride,
      hraw, hrgb, hrawSize, hrgbSize]
  rw [Machine.decodeCheck, Machine.decodeCheck, hgeom, hbuf, h.kernelMissing]

/-- Settles O59: states with the same input fail the same check or show the same. -/
theorem dependsOnlyOnSource : Obligations.DependsOnlyOnSource := by
  intro s s' i f hi hs hs' hw hh hst hrawLen hrgbLen hctrl hrawSize hrgbSize hbayer hsharp hsrc
  have hin : SameInput f s s' := by
    refine ⟨⟨hw, hh, hst, hsrc⟩, by rw [highBits, highBits, hctrl], fun d p hb => ?_⟩
    obtain ⟨rfl, hf⟩ | ⟨rfl, hf⟩ := mem_bayerFormats hb
    · obtain ⟨hbright, h8, -⟩ := hbayer (List.mem_append_left _ hf)
      exact ⟨hbright, h8, fun hslot => hsharp (.inl ⟨hf, hslot⟩)⟩
    · obtain ⟨hbright, -, h10⟩ := hbayer (List.mem_append_right _ hf)
      exact ⟨hbright, h10, fun hslot => hsharp (.inr ⟨hf, hslot⟩)⟩
  have hsame := hin.decodeCheck hrawLen hrgbLen hrawSize hrgbSize
  obtain ⟨arg, b, hr, hexec⟩ := exec_of_decodesAs hi
  refine ⟨_, _, hexec s, hexec s', ?_⟩
  cases hcheck : decodeCheck f s with
  | some code =>
    have ht : decodeCommand arg s = _ := decodeCommand_error hs (by rw [hr]; exact hcheck)
    have ht' : decodeCommand arg s' = _ := decodeCommand_error hs' (by rw [hr]; exact hsame.trans hcheck)
    rw [ht, ht']
    refine ⟨?_, fun _ _ => rfl, hsrc, fun hok => absurd hok (ne_ok_of_check hcheck)⟩
    simp only [Status.ended, hs, hs']
  | none =>
    have hg := (geometryHolds_iff f s).1 (decodeCheck_none.1 hcheck).1
    have ht := decodeCommand_decoded hr hs hcheck
    have ht' := decodeCommand_decoded hr hs' (hsame.trans hcheck)
    rw [hin.planeLog hg] at ht'
    refine ⟨?_, fun a ha => ?_, fun a ha => ?_, fun _ => ⟨?_, ⟨_, ht.diag, ht'.diag⟩, fun a ha => ?_⟩⟩
    · rw [ht.status, ht'.status]
    · rw [readRaw_congr ht.raw, readRaw_sourceAfter_beyond hg ha]
    · rw [readRaw_congr ht.raw, readRaw_congr ht'.raw]
      exact hin.sourceAfter hg a ha
    · rw [ht.warnCount, ht'.warnCount]
    · exact painted_same ht.image ht'.image hw hh (fun _ _ hy hx => hin.shownPixel hg hy hx) hctrl ha

end Sys2Proof.DispatcherCommon
end

section
/-! PROOFS. The decodes of the thirteen YUV formats (R250 to R263): which samples the fetch of each layout reads, and that
a passing `DECODE` shows their conversion. The `YVU` formats and `NV21` are the `YUV` formats and `NV12` with the two
chroma samples exchanged. -/

namespace Sys2Proof.DispatcherYuv

open Sys2Proof.Machine Sys2Proof.DispatcherCommon

/-! ### The checks by class (R223, R226, R228) -/

section
variable {f : Format} {s : State}

/-- The slots are checked for Bayer formats only (R225). -/
theorem not_slotEmpty_plain (hb : bayerTag f = none) : ¬SlotEmpty f s := fun hslot => by
  simpa [kernelMissing_plain hb] using kernelMissing_of_slotEmpty hslot

/-- A format that is not Bayer has the checks of its class. -/
theorem checksPass_iff_class (hb : bayerTag f = none) :
    ChecksPass f s ↔ geometryHolds (classOf f) s = true ∧ buffersHold (classOf f) s = true := by
  rw [ChecksPass, geometryHolds_iff, buffersHold_iff, and_iff_left (not_slotEmpty_plain hb)]

theorem evenOk_of_checksPass (hc : ChecksPass f s) : evenOk (classOf f) s.width.toNat s.height.toNat = true := by
  have hgeom := (geometryHolds_iff f s).2 hc.1
  simp only [geometryHolds, geometryOk, Bool.and_eq_true] at hgeom
  obtain ⟨⟨-, heven⟩, -⟩ := hgeom
  exact heven

/-- A multi-plane class demands `S = W` of the stride (R226). -/
theorem geometryHolds_multiPlane {c : Machine.Class} {need : Nat} (hc : pixelBytes c = none) (h : MultiPlane s need)
    (heven : evenOk c s.width.toNat s.height.toNat = true) : geometryHolds c s = true := by
  obtain ⟨-, hw, hh, hst, -⟩ := h
  have hstride : strideOk c s.width.toNat s.stride.toNat = true := by simp [strideOk, hc, hst]
  simp only [geometryHolds, geometryOk, heven, hstride, Bool.and_true, Bool.and_eq_true, bne_iff_ne]
  exact ⟨by omega, by omega⟩

theorem buffersHold_multiPlane {c : Machine.Class} (h : MultiPlane s (sourceBytes c s)) : buffersHold c s = true := by
  obtain ⟨-, -, -, -, hraw, hrgb, hsrc, hdst⟩ := h
  simp [buffersHold, outputBytes, dstNeed, hraw, hrgb, hsrc, hdst]

end

/-! ### What a passing `DECODE` of a scanned format shows (R250) -/

section
variable {f : Format} {s : State} {pixel : Nat → Nat → Rgb}
  (hpixel : ∀ y x, y < s.height.toNat → x < s.width.toNat → scanPixel f s y x = pixel y x)
include hpixel

theorem exec_shows (hb : bayerTag f = none) (hs : s.status.halt = false) (hc : ChecksPass f s) :
    ∃ t, exec f.instr s = .next t ∧ Scanned s t pixel := by
  obtain ⟨t, hexec, hregs, hraw, himage⟩ := exec_scan hb hs hc
  exact ⟨t, hexec, hregs, hraw, himage.congr hpixel⟩

theorem exec_multiPlane (hb : bayerTag f = none) (hmulti : pixelBytes (classOf f) = none)
    (h : MultiPlane s (sourceBytes (classOf f) s))
    (heven : evenOk (classOf f) s.width.toNat s.height.toNat = true) :
    ∃ t, exec f.instr s = .next t ∧ Scanned s t pixel :=
  exec_shows hpixel hb h.1 ((checksPass_iff_class hb).2
    ⟨geometryHolds_multiPlane hmulti h heven, buffersHold_multiPlane h⟩)

/-- The same for the fallback's tags, in what R264 speaks of. -/
theorem decodesAs_shows {i : Instr} (hi : DecodesAs i f) (hb : bayerTag f = none) (hs : s.status.halt = false)
    (hc : ChecksPass f s) : ∃ t, exec i s = .next t ∧ t.status.result = .ok ∧ Painted s t pixel := by
  obtain ⟨arg, b, hr, hexec⟩ := exec_of_decodesAs hi
  obtain ⟨hregs, -, himage⟩ := decodeCommand_scan hr hb hs (decodeCheck_pass hc (kernelMissing_plain hb s))
  exact ⟨_, hexec s, by rw [hregs], himage.congr hpixel⟩

end

/-! ### The samples of each layout -/

/-- The samples with Cb and Cr exchanged. -/
def swapChroma (p : Yuv) : Yuv := ⟨p.y, p.v, p.u⟩

/-- The samples of a pixel whose chroma has index `i` in two planes of `m` bytes, Cb before Cr, behind the luma plane. -/
def planarSamples (s : State) (m i y x : Nat) : Yuv :=
  ⟨lumaAt s y x, readRaw s (pixelCount s + i), readRaw s (pixelCount s + m + i)⟩

section
variable (s : State) (y x : Nat)

/-- `NV21` is `NV12` with the pair exchanged (R254). -/
theorem fetchNv21_eq_swap : fetchNv21 s y x = swapChroma (fetchNv12 s y x) := rfl

/-- The `YVU` formats are the `YUV` formats with the chroma planes exchanged (R257, R259, R261, R263). -/
theorem fetchYvu411p_eq_swap : fetchYvu411p s y x = swapChroma (fetchYuv411p s y x) := rfl

@[inherit_doc fetchYvu411p_eq_swap]
theorem fetchYvu420p_eq_swap : fetchYvu420p s y x = swapChroma (fetchYuv420p s y x) := rfl

@[inherit_doc fetchYvu411p_eq_swap]
theorem fetchYvu422p_eq_swap : fetchYvu422p s y x = swapChroma (fetchYuv422p s y x) := rfl

@[inherit_doc fetchYvu411p_eq_swap]
theorem fetchYvu444p_eq_swap : fetchYvu444p s y x = swapChroma (fetchYuv444p s y x) := rfl

end

/-! The offset of the second chroma plane is a fraction of the luma plane in the fetch and the size `cw * ch` of a chroma
plane in the statements; the parity of the class makes them one (R226). -/

section
variable {s : State}

theorem fetchYuv411p_eq_planar (heven : evenOk .pl411 s.width.toNat s.height.toNat = true) (y x : Nat) :
    fetchYuv411p s y x =
      planarSamples s (s.width.toNat / 4 * s.height.toNat) (y * (s.width.toNat / 4) + x / 4) y x := by
  have hw : s.width.toNat % 4 = 0 := by simpa [evenOk] using heven
  rw [Nat.div_mul_right_comm (Nat.dvd_of_mod_eq_zero hw)]
  rfl

theorem fetchYuv420p_eq_planar (heven : evenOk .pl420 s.width.toNat s.height.toNat = true) (y x : Nat) :
    fetchYuv420p s y x =
      planarSamples s (s.width.toNat / 2 * (s.height.toNat / 2)) (y / 2 * (s.width.toNat / 2) + x / 2) y x := by
  obtain ⟨hw, hh⟩ : s.width.toNat % 2 = 0 ∧ s.height.toNat % 2 = 0 := by simpa [evenOk] using heven
  rw [Nat.div_mul_div_comm (Nat.dvd_of_mod_eq_zero hw) (Nat.dvd_of_mod_eq_zero hh)]
  rfl

theorem fetchYuv422p_eq_planar (heven : evenOk .pl422 s.width.toNat s.height.toNat = true) (y x : Nat) :
    fetchYuv422p s y x =
      planarSamples s (s.width.toNat / 2 * s.height.toNat) (y * (s.width.toNat / 2) + x / 2) y x := by
  have hw : s.width.toNat % 2 = 0 := by simpa [evenOk] using heven
  rw [Nat.div_mul_right_comm (Nat.dvd_of_mod_eq_zero hw)]
  rfl

theorem fetchYuv444p_eq_planar (y x : Nat) :
    fetchYuv444p s y x = planarSamples s (pixelCount s) (y * s.width.toNat + x) y x := by
  rw [planarSamples, ← Nat.two_mul]
  rfl

end

/-! ### The decodes -/

/-- Settles O27: both formats have the checks of one class, and their fetches are the stated groups. -/
theorem decodesPackedYuv : Obligations.DecodesPackedYuv := by
  intro s hplane heven
  have hyuyv : ChecksPass .yuyv s := checksPass_yuyv hplane heven
  have huyvy : ChecksPass .uyvy s := (checksPass_iff_class rfl).2 ((checksPass_iff_class (f := .yuyv) rfl).1 hyuyv)
  exact ⟨exec_scan rfl hplane.1 hyuyv, exec_scan rfl hplane.1 huyvy⟩

/-- Settles O28: the fetches are the stated pairs. -/
theorem decodesSemiPlanarYuv : Obligations.DecodesSemiPlanarYuv := by
  intro s hw w h
  refine ⟨fun hplane hh => ?_, fun hplane => ?_⟩
  · have heven : evenOk .sp420 w h = true := by simp [evenOk, w, h, hw, hh]
    exact ⟨exec_multiPlane (f := .nv12) (fun _ _ _ _ => rfl) rfl rfl hplane heven,
      exec_multiPlane (f := .nv21) (fun _ _ _ _ => rfl) rfl rfl hplane heven⟩
  · have heven : evenOk .sp422 w h = true := by simp [evenOk, w, hw]
    exact exec_multiPlane (f := .nv16) (fun _ _ _ _ => rfl) rfl rfl hplane heven

/-- Settles O29: the chroma planes stand where the parity of the class puts them. -/
theorem decodesPlanar411And422 : Obligations.DecodesPlanar411And422 := by
  intro s w h
  refine ⟨fun hplane hw => ?_, fun hplane hw => ?_⟩
  · have heven : evenOk .pl411 w h = true := by simp [evenOk, hw]
    have hfetch := fetchYuv411p_eq_planar heven
    exact ⟨exec_multiPlane (f := .yuv411p) (fun y x _ _ => by rw [scanPixel, hfetch]; rfl) rfl rfl hplane heven,
      exec_multiPlane (f := .yvu411p) (fun y x _ _ => by rw [scanPixel, fetchYvu411p_eq_swap, hfetch]; rfl) rfl rfl
        hplane heven⟩
  · have heven : evenOk .pl422 w h = true := by simp [evenOk, hw]
    have hfetch := fetchYuv422p_eq_planar heven
    exact ⟨exec_multiPlane (f := .yuv422p) (fun y x _ _ => by rw [scanPixel, hfetch]; rfl) rfl rfl hplane heven,
      exec_multiPlane (f := .yvu422p) (fun y x _ _ => by rw [scanPixel, fetchYvu422p_eq_swap, hfetch]; rfl) rfl rfl
        hplane heven⟩

/-- Settles O30: the same for 4:2:0; at full resolution the fetches are the stated planes. -/
theorem decodesPlanar420And444 : Obligations.DecodesPlanar420And444 := by
  intro s w h
  refine ⟨fun hplane hw hh => ?_, fun hplane => ?_⟩
  · have heven : evenOk .pl420 w h = true := by simp [evenOk, hw, hh]
    have hfetch := fetchYuv420p_eq_planar heven
    exact ⟨exec_multiPlane (f := .yuv420p) (fun y x _ _ => by rw [scanPixel, hfetch]; rfl) rfl rfl hplane heven,
      exec_multiPlane (f := .yvu420p) (fun y x _ _ => by rw [scanPixel, fetchYvu420p_eq_swap, hfetch]; rfl) rfl rfl
        hplane heven⟩
  · exact ⟨exec_multiPlane (f := .yuv444p) (fun _ _ _ _ => rfl) rfl rfl hplane rfl,
      exec_multiPlane (f := .yvu444p) (fun _ _ _ _ => rfl) rfl rfl hplane rfl⟩

end Sys2Proof.DispatcherYuv
end

section
/-! PROOFS. A constant YUV image (R264): when the positions of a layout each hold one value, every fetch answers the same
three samples. -/

namespace Sys2Proof.DispatcherYuv

open Sys2Proof.Machine Sys2Proof.DispatcherCommon

/-! ### Constant positions (R251 to R263) -/

/-- Every group of four bytes holds `y0` at offsets `l` and `l + 2`, `u0` at `u` and `v0` at `v`. -/
def GroupsHold (s : State) (l u v : Nat) (y0 u0 v0 : Byte) : Prop :=
  ∀ y k, y < s.height.toNat → k < s.width.toNat / 2 →
    readRaw s (y * s.stride.toNat + 4 * k + l) = y0 ∧ readRaw s (y * s.stride.toNat + 4 * k + l + 2) = y0 ∧
      readRaw s (y * s.stride.toNat + 4 * k + u) = u0 ∧ readRaw s (y * s.stride.toNat + 4 * k + v) = v0

/-- The `m` bytes from `start` on hold `b`. -/
def PlaneHolds (s : State) (start m : Nat) (b : Byte) : Prop := ∀ k < m, readRaw s (start + k) = b

/-- The `m` byte pairs behind the luma plane hold `b`, `c`. -/
def PairsHold (s : State) (m : Nat) (b c : Byte) : Prop :=
  ∀ k < m, readRaw s (pixelCount s + 2 * k) = b ∧ readRaw s (pixelCount s + 2 * k + 1) = c

/-- The luma plane and the two planes of `m` bytes behind it hold `y0`, `b`, `c`. -/
structure PlanesHold (s : State) (m : Nat) (y0 b c : Byte) : Prop where
  luma : PlaneHolds s 0 (pixelCount s) y0
  first : PlaneHolds s (pixelCount s) m b
  second : PlaneHolds s (pixelCount s + m) m c

/-- Either luma byte of a group whose two hold the same. -/
theorem readRaw_luma_of_pair {s : State} {a : Nat} {b : Byte} (h0 : readRaw s a = b) (h2 : readRaw s (a + 2) = b)
    (x : Nat) : readRaw s (a + 2 * (x % 2)) = b := by
  obtain hx | hx := Nat.mod_two_eq_zero_or_one x
  · rw [hx]; exact h0
  · rw [hx]; exact h2

section
variable {s : State} {y0 b c : Byte} {y x : Nat} (hy : y < s.height.toNat) (hx : x < s.width.toNat)
include hy hx

/-! ### The samples of a constant image -/

theorem fetchYuyv_constant (heven : evenOk .pk422 s.width.toNat s.height.toNat = true)
    (h : GroupsHold s 0 1 3 y0 b c) : fetchYuyv s y x = ⟨y0, b, c⟩ := by
  have hw : s.width.toNat % 2 = 0 := by simpa [evenOk] using heven
  obtain ⟨h0, h2, hu, hv⟩ := h y (x / 2) hy (by omega)
  rw [Nat.add_zero] at h0 h2
  rw [fetchYuyv, hu, hv, readRaw_luma_of_pair h0 h2]

theorem fetchUyvy_constant (heven : evenOk .pk422 s.width.toNat s.height.toNat = true)
    (h : GroupsHold s 1 0 2 y0 b c) : fetchUyvy s y x = ⟨y0, b, c⟩ := by
  have hw : s.width.toNat % 2 = 0 := by simpa [evenOk] using heven
  obtain ⟨h0, h2, hu, hv⟩ := h y (x / 2) hy (by omega)
  rw [Nat.add_zero] at hu
  rw [fetchUyvy, hu, hv, readRaw_luma_of_pair h0 h2]

theorem lumaAt_constant (h : PlaneHolds s 0 (pixelCount s) y0) : lumaAt s y x = y0 := by
  rw [lumaAt, ← h _ (raster_lt hy hx), Nat.zero_add]

omit hy in
/-- The chroma pair of pixel `x` in row `r` of the pairs, for `n` such rows of an even width (R253, R255). -/
theorem pair_constant {r n : Nat} (hw : s.width.toNat % 2 = 0) (hr : r < n)
    (h : PairsHold s (s.width.toNat / 2 * n) b c) :
    readRaw s (pixelCount s + r * s.width.toNat + 2 * (x / 2)) = b ∧
      readRaw s (pixelCount s + r * s.width.toNat + 2 * (x / 2) + 1) = c := by
  have hindex : pixelCount s + r * s.width.toNat + 2 * (x / 2) =
      pixelCount s + 2 * (r * (s.width.toNat / 2) + x / 2) := by
    rw [Nat.mul_add, Nat.mul_left_comm, Nat.mul_div_cancel' (Nat.dvd_of_mod_eq_zero hw), Nat.add_assoc]
  rw [hindex]
  exact h _ (raster_lt hr (by omega))

theorem fetchNv12_constant (heven : evenOk .sp420 s.width.toNat s.height.toNat = true)
    (hluma : PlaneHolds s 0 (pixelCount s) y0) (h : PairsHold s (s.width.toNat / 2 * (s.height.toNat / 2)) b c) :
    fetchNv12 s y x = ⟨y0, b, c⟩ := by
  obtain ⟨hw, hh⟩ : s.width.toNat % 2 = 0 ∧ s.height.toNat % 2 = 0 := by simpa [evenOk] using heven
  obtain ⟨hu, hv⟩ := pair_constant hx hw (r := y / 2) (by omega) h
  rw [fetchNv12, lumaAt_constant hy hx hluma, hu, hv]

theorem fetchNv16_constant (heven : evenOk .sp422 s.width.toNat s.height.toNat = true)
    (hluma : PlaneHolds s 0 (pixelCount s) y0) (h : PairsHold s (s.width.toNat / 2 * s.height.toNat) b c) :
    fetchNv16 s y x = ⟨y0, b, c⟩ := by
  have hw : s.width.toNat % 2 = 0 := by simpa [evenOk] using heven
  obtain ⟨hu, hv⟩ := pair_constant hx hw hy h
  rw [fetchNv16, lumaAt_constant hy hx hluma, hu, hv]

theorem planarSamples_constant {m i : Nat} (h : PlanesHold s m y0 b c) (hi : i < m) :
    planarSamples s m i y x = ⟨y0, b, c⟩ := by
  rw [planarSamples, lumaAt_constant hy hx h.luma, h.first i hi, h.second i hi]

theorem fetchYuv411p_constant (heven : evenOk .pl411 s.width.toNat s.height.toNat = true)
    (h : PlanesHold s (s.width.toNat / 4 * s.height.toNat) y0 b c) : fetchYuv411p s y x = ⟨y0, b, c⟩ := by
  have hw : s.width.toNat % 4 = 0 := by simpa [evenOk] using heven
  rw [fetchYuv411p_eq_planar heven]
  exact planarSamples_constant hy hx h (raster_lt hy (by omega))

theorem fetchYuv420p_constant (heven : evenOk .pl420 s.width.toNat s.height.toNat = true)
    (h : PlanesHold s (s.width.toNat / 2 * (s.height.toNat / 2)) y0 b c) : fetchYuv420p s y x = ⟨y0, b, c⟩ := by
  obtain ⟨hw, hh⟩ : s.width.toNat % 2 = 0 ∧ s.height.toNat % 2 = 0 := by simpa [evenOk] using heven
  rw [fetchYuv420p_eq_planar heven]
  exact planarSamples_constant hy hx h (raster_lt (by omega) (by omega))

theorem fetchYuv422p_constant (heven : evenOk .pl422 s.width.toNat s.height.toNat = true)
    (h : PlanesHold s (s.width.toNat / 2 * s.height.toNat) y0 b c) : fetchYuv422p s y x = ⟨y0, b, c⟩ := by
  have hw : s.width.toNat % 2 = 0 := by simpa [evenOk] using heven
  rw [fetchYuv422p_eq_planar heven]
  exact planarSamples_constant hy hx h (raster_lt hy (by omega))

theorem fetchYuv444p_constant (h : PlanesHold s (pixelCount s) y0 b c) : fetchYuv444p s y x = ⟨y0, b, c⟩ := by
  rw [fetchYuv444p_eq_planar]
  exact planarSamples_constant hy hx h (raster_lt hy hx)

end

/-- Settles O60: in each layout every fetch answers the three values; where Cr comes first they are those of the `YUV`
layout, exchanged. -/
theorem constantImage : Obligations.ConstantImage := by
  intro s i f y0 u0 v0 hi hs hc w h plane pairs groups planes hlayout
  have heven := evenOk_of_checksPass hc
  suffices hshown : bayerTag f = none ∧ ∀ y x, y < h → x < w → scanPixel f s y x = yuvToRgb y0 u0 v0 from
    decodesAs_shows hshown.2 hi hshown.1 hs hc
  obtain ⟨rfl, hg⟩ | ⟨rfl, hg⟩ | ⟨rfl, hl, hp⟩ | ⟨rfl, hl, hp⟩ | ⟨rfl, hl, hp⟩ | ⟨rfl, hl, hb, hr⟩ |
    ⟨rfl, hl, hr, hb⟩ | ⟨rfl, hl, hb, hr⟩ | ⟨rfl, hl, hr, hb⟩ | ⟨rfl, hl, hb, hr⟩ | ⟨rfl, hl, hr, hb⟩ |
    ⟨rfl, hl, hb, hr⟩ | ⟨rfl, hl, hr, hb⟩ := hlayout <;> refine ⟨rfl, fun y x hy hx => ?_⟩
  · rw [scanPixel, fetchYuyv_constant hy hx heven hg]; rfl
  · rw [scanPixel, fetchUyvy_constant hy hx heven hg]; rfl
  · rw [scanPixel, fetchNv12_constant hy hx heven hl hp]; rfl
  · rw [scanPixel, fetchNv21_eq_swap, fetchNv12_constant hy hx heven hl hp]; rfl
  · rw [scanPixel, fetchNv16_constant hy hx heven hl hp]; rfl
  · rw [scanPixel, fetchYuv411p_constant hy hx heven ⟨hl, hb, hr⟩]; rfl
  · rw [scanPixel, fetchYvu411p_eq_swap, fetchYuv411p_constant hy hx heven ⟨hl, hr, hb⟩]; rfl
  · rw [scanPixel, fetchYuv420p_constant hy hx heven ⟨hl, hb, hr⟩]; rfl
  · rw [scanPixel, fetchYvu420p_eq_swap, fetchYuv420p_constant hy hx heven ⟨hl, hr, hb⟩]; rfl
  · rw [scanPixel, fetchYuv422p_constant hy hx heven ⟨hl, hb, hr⟩]; rfl
  · rw [scanPixel, fetchYvu422p_eq_swap, fetchYuv422p_constant hy hx heven ⟨hl, hr, hb⟩]; rfl
  · rw [scanPixel, fetchYuv444p_constant hy hx ⟨hl, hb, hr⟩]; rfl
  · rw [scanPixel, fetchYvu444p_eq_swap, fetchYuv444p_constant hy hx ⟨hl, hr, hb⟩]; rfl

end Sys2Proof.DispatcherYuv
end

section
/-! PROOFS. The decodes of the twelve monochrome and packed RGB formats (R280 to R293). All are single-plane formats of
one set of checks. A pixel is a function of the bytes at its place; a field of a packed word is a quotient and remainder
of the word's number, times a power of two. -/

namespace Sys2Proof.DispatcherRgbMono

open Sys2Proof.Machine Sys2Proof.DispatcherYuv

/-! ### The single-plane classes (R223, R226, R228, R280) -/

/-- The source of a single-plane class is `H - 1` rows of `S` bytes and a last row of `P*W` (R223, R227). -/
theorem srcNeed_singlePlane {c : Machine.Class} {p : Nat} (hc : pixelBytes c = some p) (w h st : Nat) :
    srcNeed c w h st = (h - 1) * st + p * w := by
  cases c <;> cases hc <;> simp [srcNeed]

section
variable {c : Machine.Class} {p : Nat} {s : State} (hc : pixelBytes c = some p) (h : SinglePlane s p)
include hc h

theorem geometryHolds_singlePlane (hbayer : c ≠ .bayer10) (heven : evenOk c s.width.toNat s.height.toNat = true) :
    geometryHolds c s = true := by
  obtain ⟨-, hw, hh, hst, -⟩ := h
  have hstride : strideOk c s.width.toNat s.stride.toNat = true := by simp [strideOk, hc, hst, hbayer]
  simp only [geometryHolds, geometryOk, heven, hstride, Bool.and_true, Bool.and_eq_true, bne_iff_ne]
  exact ⟨by omega, by omega⟩

theorem buffersHold_singlePlane : buffersHold c s = true := by
  obtain ⟨-, -, -, -, hraw, hrgb, hsrc, hdst⟩ := h
  have hneed : sourceBytes c s ≤ s.rawLen.toNat := by rw [sourceBytes, srcNeed_singlePlane hc]; exact hsrc
  simp [buffersHold, outputBytes, dstNeed, hraw, hrgb, hneed, hdst]

end

/-- A `DECODE` of a single-plane format that is not Bayer shows its pixels when its class has its parity and the rest of
its checks hold (R280). -/
theorem exec_singlePlane {f : Format} {p : Nat} {s : State} {pixel : Nat → Nat → Rgb}
    (hpixel : ∀ y x, scanPixel f s y x = pixel y x) (hb : bayerTag f = none) (hp : pixelBytes (classOf f) = some p)
    (heven : evenOk (classOf f) s.width.toNat s.height.toNat = true) (h : SinglePlane s p) :
    ∃ t, exec f.instr s = .next t ∧ Scanned s t pixel := by
  have hclass : classOf f ≠ .bayer10 := by cases f <;> cases hb <;> decide
  exact exec_shows (fun y x _ _ => hpixel y x) hb h.1 ((checksPass_iff_class hb).2
    ⟨geometryHolds_singlePlane hp h hclass heven, buffersHold_singlePlane hp h⟩)

/-! ### Words and fields as numbers (R60, R293) -/

/-- Concatenation puts the first vector above the second. -/
theorem toNat_append_eq_add {n m : Nat} (a : BitVec n) (b : BitVec m) :
    (a ++ b).toNat = a.toNat * 2 ^ m + b.toNat := by
  rw [BitVec.toNat_append, ← Nat.shiftLeft_add_eq_or_of_lt b.isLt, Nat.shiftLeft_eq]

theorem toNat_readRaw16 (s : State) (a : Nat) :
    (readRaw16 s a).toNat = (readRaw s a).toNat + 256 * (readRaw s (a + 1)).toNat := by
  rw [readRaw16, toNat_append_eq_add]; omega

theorem toNat_readRaw16BE (s : State) (a : Nat) :
    (readRaw16BE s a).toNat = 256 * (readRaw s a).toNat + (readRaw s (a + 1)).toNat := by
  rw [readRaw16BE, toNat_append_eq_add]; omega

theorem toNat_readRaw16_eq_containerAt (s : State) (a : Nat) : (readRaw16 s a).toNat = containerAt 2 s a :=
  toNat_readRaw16 s a

/-- A field of `k` bits above `m` zero bits: the field of the number, times `2^m` (R293). -/
theorem extract_append_zero {n : Nat} (p : BitVec n) (lo k m : Nat) :
    p.extractLsb' lo k ++ 0#m = BitVec.ofNat (k + m) (p.toNat / 2 ^ lo % 2 ^ k * 2 ^ m) := by
  have hfit : p.toNat / 2 ^ lo % 2 ^ k * 2 ^ m < 2 ^ (k + m) := by
    rw [Nat.pow_add]
    exact Nat.mul_lt_mul_of_pos_right (Nat.mod_lt _ (Nat.two_pow_pos k)) (Nat.two_pow_pos m)
  apply BitVec.eq_of_toNat_eq
  rw [toNat_append_eq_add, BitVec.extractLsb'_toNat, Nat.shiftRight_eq_div_pow, BitVec.toNat_zero,
    Nat.add_zero, BitVec.toNat_ofNat, Nat.mod_eq_of_lt hfit]

/-! ### The pixel of a packed word (R284 to R288)

A topmost field has nothing above it, so it is the quotient alone. -/

theorem rgb332Pixel_eq (p : Byte) : rgb332Pixel p =
    ⟨BitVec.ofNat 8 (p.toNat / 32 * 32), BitVec.ofNat 8 (p.toNat / 4 % 8 * 32),
      BitVec.ofNat 8 (p.toNat % 4 * 64)⟩ := by
  have hred : p.toNat / 2 ^ 5 % 2 ^ 3 = p.toNat / 2 ^ 5 := Nat.mod_eq_of_lt (Nat.div_lt_of_lt_mul p.isLt)
  simp only [rgb332Pixel, expand3, expand2, extract_append_zero, hred, Nat.pow_zero, Nat.div_one]
  rfl

/-- Bit 15 is no part of the pixel (R285). -/
theorem rgb555Pixel_eq (p : Half) : rgb555Pixel p =
    ⟨BitVec.ofNat 8 (p.toNat / 1024 % 32 * 8), BitVec.ofNat 8 (p.toNat / 32 % 32 * 8),
      BitVec.ofNat 8 (p.toNat % 32 * 8)⟩ := by
  simp only [rgb555Pixel, expand5, extract_append_zero, Nat.pow_zero, Nat.div_one]
  rfl

theorem rgb565Pixel_eq (p : Half) : rgb565Pixel p =
    ⟨BitVec.ofNat 8 (p.toNat / 2048 * 8), BitVec.ofNat 8 (p.toNat / 32 % 64 * 4),
      BitVec.ofNat 8 (p.toNat % 32 * 8)⟩ := by
  have hred : p.toNat / 2 ^ 11 % 2 ^ 5 = p.toNat / 2 ^ 11 := Nat.mod_eq_of_lt (Nat.div_lt_of_lt_mul p.isLt)
  simp only [rgb565Pixel, expand5, expand6, extract_append_zero, hred, Nat.pow_zero, Nat.div_one]
  rfl

/-! ### The decodes -/

/-- Settles O31: the two-byte sample is the little-endian container at the pixel's address. -/
theorem decodesMonochrome : Obligations.DecodesMonochrome := by
  intro s
  refine ⟨exec_singlePlane (f := .grey8) (fun y x => ?_) rfl rfl rfl, fun h =>
    ⟨exec_singlePlane (f := .y10) (fun y x => ?_) rfl rfl rfl h,
      exec_singlePlane (f := .y12) (fun y x => ?_) rfl rfl rfl h⟩⟩
  · rw [scanPixel, fetchGrey8, planeAddr, Nat.one_mul]; rfl
  · rw [scanPixel, fetchY10, toNat_readRaw16_eq_containerAt]; rfl
  · rw [scanPixel, fetchY12, toNat_readRaw16_eq_containerAt]; rfl

/-- Settles O32: each fetch is the pixel of its byte or word; the `X` formats differ in the order of the two bytes
alone. -/
theorem decodesNarrowRgb : Obligations.DecodesNarrowRgb := by
  intro s px15 px16 lo hi
  refine ⟨exec_singlePlane (f := .rgb332) (fun y x => ?_) rfl rfl rfl, fun h =>
    ⟨exec_singlePlane (f := .rgb555) (fun y x => ?_) rfl rfl rfl h,
      exec_singlePlane (f := .rgb565) (fun y x => ?_) rfl rfl rfl h,
      exec_singlePlane (f := .rgb555x) (fun y x => ?_) rfl rfl rfl h,
      exec_singlePlane (f := .rgb565x) (fun y x => ?_) rfl rfl rfl h⟩⟩
  · rw [scanPixel, fetchRgb332, rgb332Pixel_eq, planeAddr, Nat.one_mul]
  · rw [scanPixel, fetchRgb555, rgb555Pixel_eq, toNat_readRaw16]; rfl
  · rw [scanPixel, fetchRgb565, rgb565Pixel_eq, toNat_readRaw16]; rfl
  · rw [scanPixel, fetchRgb555x, rgb555Pixel_eq, toNat_readRaw16BE]; rfl
  · rw [scanPixel, fetchRgb565x, rgb565Pixel_eq, toNat_readRaw16BE]; rfl

/-- Settles O33: the fetches are the stated bytes, and the pad byte is none of them. -/
theorem decodesWideRgb : Obligations.DecodesWideRgb := by
  intro s
  exact ⟨fun h => ⟨exec_singlePlane (f := .bgr24) (fun _ _ => rfl) rfl rfl rfl h,
      exec_singlePlane (f := .rgb24) (fun _ _ => rfl) rfl rfl rfl h⟩,
    fun h => ⟨exec_singlePlane (f := .bgr32) (fun _ _ => rfl) rfl rfl rfl h,
      exec_singlePlane (f := .rgb32) (fun _ _ => rfl) rfl rfl rfl h⟩⟩

end Sys2Proof.DispatcherRgbMono
end

section
/-! PROOFS. The Bayer decodes (R300 to R315). A passing Bayer `DECODE` is the normalisation pass, the kernel pass and
the epilogue; its log, its samples and its image are stated once for every tag and both depths, and the statements
about one depth or about two values of `BRIGHTNESS` are read off from there. -/

namespace Sys2Proof.DispatcherBayer

open Sys2Proof.Machine Sys2Proof.DispatcherCommon Sys2Proof.DispatcherRgbMono

/-! ### A Bayer `DECODE` that runs (R226, R228, R305) -/

/-- The `DECODE` of `f` on `s` runs: the tag is a Bayer tag of depth `d` and phase `p`, the engine is ready, the checks
pass, and the slot of the depth holds the algorithm `a`, which has a kernel there. -/
structure BayerRun (f : Format) (d : Depth) (p : CfaPhase) (a : Alg) (s : State) : Prop where
  tag : bayerTag f = some (d, p)
  ready : s.status.halt = false
  checks : ChecksPass f s
  slot : slotFor d s = a.id
  kernel : hasKernel a d = true

/-- The Bayer formats of a depth (R96). -/
def bayerFormats : Depth → List Format
  | .d8 => bayer8Formats
  | .d10 => bayer10Formats

theorem bayerTag_of_mem {d : Depth} {f : Format} (h : f ∈ bayerFormats d) : ∃ p, bayerTag f = some (d, p) := by
  have hdepth : ∀ g ∈ bayerFormats d, (bayerTag g).map Prod.fst = some d := by cases d <;> decide
  obtain ⟨⟨e, p⟩, hp, rfl⟩ := Option.map_eq_some_iff.1 (hdepth f h)
  exact ⟨p, hp⟩

theorem depth_of_mem {d e : Depth} {p : CfaPhase} {f : Format} (h : f ∈ bayerFormats e)
    (hb : bayerTag f = some (d, p)) : d = e := by
  obtain ⟨_, he⟩ := bayerTag_of_mem h
  cases hb.symm.trans he
  rfl

theorem classOf_bayer {f : Format} {d : Depth} {p : CfaPhase} (hb : bayerTag f = some (d, p)) :
    classOf f = bayerClass d := by cases f <;> cases hb <;> rfl

theorem checksPass_of_decodeCheck {f : Format} {s : State} (h : decodeCheck f s = none) : ChecksPass f s := by
  obtain ⟨hgeom, hbuf, hkernel⟩ := decodeCheck_none.1 h
  refine ⟨(geometryHolds_iff f s).1 hgeom, (buffersHold_iff f s).1 hbuf, fun hslot => ?_⟩
  exact Bool.false_ne_true (hkernel.symm.trans (kernelMissing_of_slotEmpty hslot))

/-- Only a kernel that exists is selected (R98, R305). -/
theorem hasKernel_of_selected {d : Depth} {s : State} {a : Alg} (h : selectedKernel d s = some a) :
    hasKernel a d = true := by
  unfold selectedKernel at h
  generalize slotFor d s = slot at h
  revert slot
  cases a <;> cases d <;> decide

/-- A Bayer `DECODE` that passes the model's checks runs the kernel its slot selects. -/
theorem bayerRun_of_decodeCheck {f : Format} {d : Depth} {p : CfaPhase} {s : State} (hb : bayerTag f = some (d, p))
    (hs : s.status.halt = false) (hc : decodeCheck f s = none) : ∃ a, BayerRun f d p a s := by
  obtain ⟨a, ha⟩ := exists_selected hb (decodeCheck_none.1 hc).2.2
  exact ⟨a, hb, hs, checksPass_of_decodeCheck hc, slotFor_of_selected ha, hasKernel_of_selected ha⟩

/-- The geometry conditions of the Bayer classes (R226). -/
theorem geometryHolds_bayer (d : Depth) (s : State) :
    geometryHolds (bayerClass d) s = true ↔
      0 < s.width.toNat ∧ 0 < s.height.toNat ∧ s.width.toNat % 2 = 0 ∧ s.height.toNat % 2 = 0 ∧
        containerBytes d * s.width.toNat ≤ s.stride.toNat ∧ (containerBytes d = 2 → s.stride.toNat % 2 = 0) := by
  cases d <;> simp [geometryHolds, geometryOk, evenOk, strideOk, bayerClass, pixelBytes, containerBytes] <;> omega

/-- The conditions of a Bayer plane are the checks of its tags, when the slot holds a kernel of the depth. -/
theorem bayerRun_of_plane {f : Format} {d : Depth} {p : CfaPhase} {a : Alg} {s : State}
    (hb : bayerTag f = some (d, p)) (hplane : BayerPlane s (containerBytes d)) (hs : slotFor d s = a.id)
    (hk : hasKernel a d = true) : BayerRun f d p a s := by
  obtain ⟨hsingle, hevenW, hevenH, hparity⟩ := hplane
  have ⟨hready, hw, hh, hst, _⟩ := hsingle
  have hclass := classOf_bayer hb
  have hgeom : geometryHolds (classOf f) s = true := by
    rw [hclass, geometryHolds_bayer]
    exact ⟨hw, hh, hevenW, hevenH, hst, hparity⟩
  have hbuf : buffersHold (classOf f) s = true := by
    rw [hclass]
    exact buffersHold_singlePlane (by cases d <;> rfl) hsingle
  have hcheck : decodeCheck f s = none := decodeCheck_none.2 ⟨hgeom, hbuf, kernelMissing_of_id hb hs hk⟩
  exact ⟨hb, hready, checksPass_of_decodeCheck hcheck, hs, hk⟩

/-! ### Samples as containers (R60, R303) -/

theorem sample_eq_containerAt (d : Depth) (s : State) (y x : Nat) :
    sample d s y x = containerAt (containerBytes d) s (y * s.stride.toNat + containerBytes d * x) := by
  cases d with
  | d8 => simp [sample, sampleAddr, containerAt, containerBytes]
  | d10 => exact toNat_readRaw16_eq_containerAt s _

/-- The normalised value of R303 in the terms of `Normalised`. -/
theorem normalised_eq (d : Depth) (s : State) (y x : Nat) :
    normalised d s y x =
      min (maxSample d) (containerAt (containerBytes d) s (y * s.stride.toNat + containerBytes d * x) /
        2 ^ precisionShift d s * s.brightness.toNat / 256) := by
  rw [normalised, scaled, shiftedSample, shifted, sample_eq_containerAt]

/-- The pass over the whole plane normalises it (R303). -/
theorem normalised_of_normPass {d : Depth} {s t : State} (hst : containerBytes d * s.width.toNat ≤ s.stride.toNat)
    (hstride : t.stride = s.stride) (hraw : t.raw = (normPass d s.width.toNat (pixelCount s) 0 s).raw) :
    Normalised s t (containerBytes d) (precisionShift d s) (maxSample d) := by
  refine ⟨fun y x hy hx => ?_, fun b hout => ?_⟩
  · have hsample : sample d t y x = sample d (normPass d s.width.toNat (pixelCount s) 0 s) y x :=
      sample_congr (by rw [hstride, normPass_stride]) fun b _ _ => readRaw_congr hraw b
    have hpass := sample_normPass (by omega) (pixelCount s) 0 s hst (y * s.width.toNat + x)
    rw [raster_div hx, raster_mod hx, if_pos ⟨Nat.zero_le _, by rw [Nat.zero_add]; exact raster_lt hy hx⟩] at hpass
    rw [← hstride, ← sample_eq_containerAt, hsample, hpass, normalised_eq, hstride]
  · rw [readRaw_congr hraw]
    refine readRaw_normPass_outside _ _ s fun j _ hj => ?_
    rw [Nat.zero_add, pixelCount] at hj
    have hw : 0 < s.width.toNat := Nat.pos_of_mul_pos_right (Nat.zero_lt_of_lt hj)
    rw [sampleAddr_eq]
    exact hout _ _ (Nat.div_lt_of_lt_mul hj) (Nat.mod_lt _ hw)

/-! ### What a running Bayer `DECODE` leaves -/

/-- A `WARN_COUNT` that has not wrapped is nonzero exactly when something was logged (R33, R234). -/
theorem ofNat_length_ne_zero {log : List DiagEntry} (h : log.length < 2 ^ 32) :
    decide (BitVec.ofNat 32 log.length ≠ 0) = !log.isEmpty := by
  cases log with
  | nil => rfl
  | cons e rest =>
    have hne : BitVec.ofNat 32 (e :: rest).length ≠ 0 := fun h0 => by
      have hnat := congrArg BitVec.toNat h0
      rw [BitVec.toNat_ofNat, Nat.mod_eq_of_lt h] at hnat
      exact absurd hnat (by simp)
    rw [decide_eq_true hne]
    rfl

section
variable {f : Format} {d : Depth} {p : CfaPhase} {a : Alg} {s : State} (h : BayerRun f d p a s)
include h

theorem BayerRun.decodeCheck : decodeCheck f s = none :=
  decodeCheck_pass h.checks (kernelMissing_of_id h.tag h.slot h.kernel)

theorem BayerRun.decodeCommand_eq :
    decodeCommand f.tag s = endCommand true .ok (kernelPass (kernelPixel a d) (normalisedState d f s)) :=
  decodeCommand_bayer h.tag h.ready h.checks h.slot h.kernel

/-- The warnings are fewer than `2^32`, as the plane has fewer pixels: `WARN_COUNT` does not wrap (R228, R304). -/
theorem BayerRun.log_length_lt : (tagLog f false f.tag ++ planeLog f s).length < 2 ^ 32 := by
  obtain ⟨-, -, -, hdst⟩ := fits_of_check h.decodeCheck
  have hlen := s.rgbLen.isLt
  have htag : (phaseLog p f.tag).length ≤ 1 := by cases p <;> simp [phaseLog]
  have hplane : (rangeLog d s s.width.toNat 0 (pixelCount s)).length ≤ pixelCount s := by
    simpa [rangeLog] using List.length_filterMap_le (fun j => rangeEntry d s (j / s.width.toNat) (j % s.width.toNat))
      (List.range' 0 (pixelCount s))
  rw [← pixelCount] at hdst
  rw [tagLog_bayer h.tag, planeLog_bayer h.tag, List.length_append]
  omega

/-- The registers after the decode (R234, R301, R304). -/
theorem BayerRun.completed :
    Completed s (decodeCommand f.tag s) (phaseLog p f.tag ++ rangeLog d s s.width.toNat 0 (pixelCount s)) := by
  have hdec := decodeCommand_decoded (resolve_tag f) h.ready h.decodeCheck
  have hstatus := hdec.status
  rw [ofNat_length_ne_zero h.log_length_lt] at hstatus
  have hcount := hdec.warnCount
  have hdiag := hdec.diag
  rw [tagLog_bayer h.tag, planeLog_bayer h.tag] at hstatus hcount hdiag
  rw [Completed, ← hstatus, ← hcount, ← hdiag, h.decodeCommand_eq, kernelPass_frame, normalisedState_frame h.tag]
  rfl

/-- The samples after the decode (R303). -/
theorem BayerRun.normalised :
    Normalised s (decodeCommand f.tag s) (containerBytes d) (precisionShift d s) (maxSample d) := by
  refine normalised_of_normPass (bayer_geometry h.tag h.checks.1).2 ?_ ?_
  · rw [h.completed]
  · rw [(decodeCommand_decoded (resolve_tag f) h.ready h.decodeCheck).raw, sourceAfter_bayer h.tag]

/-- The image is that of the kernel on the normalised samples, which the decode leaves in `RAW` (R300, R305). -/
theorem BayerRun.painted : Painted s (decodeCommand f.tag s) (kernelPixel a d (decodeCommand f.tag s)) := by
  have hdec := decodeCommand_decoded (resolve_tag f) h.ready h.decodeCheck
  have himage := hdec.image
  rw [shownPixel_bayer h.tag (selectedKernel_of_id h.slot h.kernel)] at himage
  refine himage.congr fun y x _ _ => kernelPixel_congr hdec.raw.symm ?_ ?_ ?_ ?_ y x <;>
    rw [sourceAfter_frame, h.completed]

theorem BayerRun.exec_shows :
    ∃ t, exec f.instr s = .next t ∧
      Completed s t (phaseLog p f.tag ++ rangeLog d s s.width.toNat 0 (pixelCount s)) ∧
      Normalised s t (containerBytes d) (precisionShift d s) (maxSample d) ∧ Painted s t (kernelPixel a d t) :=
  ⟨_, exec_instr f s, h.completed, h.normalised, h.painted⟩

end

/-! ### The decodes of each depth -/

/-- No 8-bit sample is out of range (R304). -/
theorem rangeLog_d8 (s : State) (w k n : Nat) : rangeLog .d8 s w k n = [] := by
  simp [rangeLog, rangeEntry, outOfRange]

/-- The range warnings of a 10-bit plane, in the terms of R304. -/
theorem rangeLog_d10 (s : State) :
    rangeLog .d10 s s.width.toNat 0 (pixelCount s) = rangeEntries s (precisionShift .d10 s) := by
  rw [rangeLog, rangeEntries, pixelCount, List.range_eq_range']
  refine List.filterMap_congr fun k _ => ?_
  simp only [rangeEntry, outOfRange, shiftedSample, shifted, sample_eq_containerAt, decide_eq_true_eq]
  rfl

/-- Settles O35: every algorithm has an 8-bit kernel, and the depth has no range warnings. -/
theorem decodesBayer8 : Obligations.DecodesBayer8 := by
  intro s a i log hmem hplane hslot
  have hrow : ∀ {f : Format} {p : CfaPhase}, bayerTag f = some (.d8, p) →
      ∃ t, exec f.instr s = .next t ∧ Completed s t (phaseLog p f.tag) ∧ Normalised s t 1 0 255 ∧
        Painted s t (kernelPixel a .d8 t) := fun hb => by
    have hshown := (bayerRun_of_plane hb hplane hslot (by cases a <;> rfl)).exec_shows
    rwa [rangeLog_d8, List.append_nil] at hshown
  simp only [List.mem_cons, List.not_mem_nil, or_false, Prod.mk.injEq] at hmem
  obtain ⟨rfl, rfl⟩ | ⟨rfl, rfl⟩ | ⟨rfl, rfl⟩ | ⟨rfl, rfl⟩ := hmem
  · exact hrow (f := .sgrbg8) rfl
  · exact hrow (f := .srggb8) rfl
  · exact hrow (f := .sbggr8) rfl
  · exact hrow (f := .sgbrg8) rfl

/-- Settles O36: of the six algorithms `cottnoip` and `gptm` have a 10-bit kernel. -/
theorem decodesBayer10 : Obligations.DecodesBayer10 := by
  intro s a i log hmem hplane halg hslot
  have hkernel : hasKernel a .d10 = true := by obtain rfl | rfl := halg <;> rfl
  have hrow : ∀ {f : Format} {p : CfaPhase}, bayerTag f = some (.d10, p) →
      ∃ t, exec f.instr s = .next t ∧ Completed s t (phaseLog p f.tag ++ rangeEntries s (precisionShift .d10 s)) ∧
        Normalised s t 2 (precisionShift .d10 s) 1023 ∧ Painted s t (kernelPixel a .d10 t) := fun hb => by
    have hshown := (bayerRun_of_plane hb hplane hslot hkernel).exec_shows
    rwa [rangeLog_d10] at hshown
  simp only [List.mem_cons, List.not_mem_nil, or_false, Prod.mk.injEq] at hmem
  obtain ⟨rfl, rfl⟩ | ⟨rfl, rfl⟩ | ⟨rfl, rfl⟩ | ⟨rfl, rfl⟩ := hmem
  · exact hrow (f := .sgrbg10) rfl
  · exact hrow (f := .srggb10) rfl
  · exact hrow (f := .sbggr10) rfl
  · exact hrow (f := .sgbrg10) rfl

/-! ### Brightness (R303, R315) -/

/-- A larger `BRIGHTNESS` scales no sample lower (R303). -/
theorem scaled_mono (d : Depth) (v : Nat) {b c : Nat} (h : b ≤ c) : scaled d b v ≤ scaled d c v :=
  min_le_min_left _ (Nat.div_le_div_right (Nat.mul_le_mul_left v h))

/-- Settles O39: both decodes normalise the same samples, each with its own `BRIGHTNESS`. -/
theorem normalisationMonotone : Obligations.NormalisationMonotone := by
  intro s b f p top hf hs hc hslot hle
  obtain ⟨a, d, ph, hb, hid, hk⟩ := hslot
  have hrun : BayerRun f d ph a s := ⟨hb, hs, hc, by cases d <;> exact hid, hk⟩
  have hrun' : BayerRun f d ph a { s with brightness := b } := ⟨hb, hs, hc, hrun.slot, hk⟩
  obtain ⟨rfl, rfl⟩ : p = containerBytes d ∧ top = maxSample d := by
    obtain ⟨hmem, rfl, rfl⟩ | ⟨hmem, rfl, rfl⟩ := hf
    · obtain rfl := depth_of_mem (e := .d8) hmem hb
      exact ⟨rfl, rfl⟩
    · obtain rfl := depth_of_mem (e := .d10) hmem hb
      exact ⟨rfl, rfl⟩
  obtain ⟨t, ht, hdone, ⟨hnorm, -⟩, -⟩ := hrun.exec_shows
  obtain ⟨t', ht', hdone', ⟨hnorm', -⟩, -⟩ := hrun'.exec_shows
  refine ⟨t, t', ht, ht', by rw [hdone], by rw [hdone'], fun y x hy hx => ?_⟩
  rw [hnorm y x hy hx, hnorm' y x hy hx]
  exact ⟨scaled_mono d _ hle, Nat.min_le_left _ _⟩

end Sys2Proof.DispatcherBayer
end

section
/-! PROOFS. The two passes of a Bayer decode apart (R300): a step from the point between them finishes the decode, and
two tags of one depth have the same normalised samples there, so the declared phase shows in the log alone (R301). -/

namespace Sys2Proof.DispatcherBayer

open Sys2Proof.Machine Sys2Proof.DispatcherCommon

/-! ### The kernel pass from the point between the passes (R300, R305) -/

/-- The instruction of a kernel row is the pass of its algorithm (R98, R155). -/
theorem exec_of_kernelInstr {a : Alg} {d : Depth} {i : Instr} (h : kernelInstr a d = some i) (s : State) :
    exec i s = runKernelRow d (kernelPixel a d) s := by
  cases a <;> cases d <;> cases h <;> rfl

theorem hasKernel_of_kernelInstr {a : Alg} {d : Depth} {i : Instr} (h : kernelInstr a d = some i) :
    hasKernel a d = true := by
  cases a <;> cases d <;> cases h <;> rfl

/-- A pass over a plane that is not empty sets `SP` before it reads it (R236). -/
theorem kernelPass_sp {a : Alg} {d : Depth} {s : State} (h : 0 < pixelCount s) (sp : ScanPtr) :
    kernelPass (kernelPixel a d) { s with sp := sp } = kernelPass (kernelPixel a d) s := by
  have hpixel : kernelPixel a d { s with sp := sp } = kernelPixel a d s :=
    funext fun y => funext fun x => kernelPixel_congr (s := { s with sp := sp }) (t := s) rfl rfl rfl rfl rfl y x
  obtain ⟨n, hn⟩ := Nat.exists_eq_add_one.2 h
  have hn' : pixelCount { s with sp := sp } = n + 1 := hn
  rw [kernelPass, kernelPass, hpixel, hn, hn']
  rfl

/-- The word of a `DECODE` as a number (R90, R94). -/
theorem decodeWord_eq_ofNat (tag : BitVec 8) : decodeWord tag = BitVec.ofNat 32 (1 + 256 * tag.toNat) := by
  revert tag; decide

/-- The row of a key has the key's depth and the algorithm of the slot it was formed from (R98). -/
theorem row_of_kernelKey {slot : BitVec 4} {d e : Depth} {a : Alg} (h : kernelRow (kernelKey slot d) = some (a, e)) :
    slot = a.id ∧ e = d := by
  revert h slot
  cases a <;> cases d <;> cases e <;> decide

/-- The key of a slot names a kernel of its depth, and the slot holds its id (R98). -/
theorem kernel_of_key {slot : BitVec 4} {d : Depth} {i : Instr} (h : decode (.kernel (kernelKey slot d)) = .ok i) :
    ∃ a : Alg, slot = a.id ∧ kernelInstr a d = some i := by
  obtain ⟨a, e, hrow, hi⟩ := decode_kernel_cases h
  obtain ⟨hslot, rfl⟩ := row_of_kernelKey hrow
  exact ⟨a, hslot, hi⟩

section
variable {f : Format} {d : Depth} {p : CfaPhase} {a : Alg} {s : State} (h : BayerRun f d p a s)
include h

/-- Undoing what the kernel pass and the epilogue did gives the state between the passes, `SP` at the first site. -/
theorem BayerRun.between_eq :
    { decodeCommand f.tag s with
      sp := ⟨.kern, 0, 0⟩, cmd := BitVec.ofNat 32 (1 + 256 * f.tag.toNat), rgb := s.rgb
      status := { s.status with busy := true, done := false } } =
    { normalisedState d f s with sp := ⟨.kern, 0, 0⟩ } := by
  rw [h.decodeCommand_eq, kernelPass_frame, normalisedState_frame h.tag, ← decodeWord_eq_ofNat]
  rfl

/-- The row of the slot, run from there, is the kernel pass of the decode: its plane has been checked (R68). -/
theorem BayerRun.exec_kernelInstr {i : Instr} (hi : kernelInstr a d = some i) :
    exec i { normalisedState d f s with sp := ⟨.kern, 0, 0⟩ } =
      .next (kernelPass (kernelPixel a d) (normalisedState d f s)) := by
  obtain ⟨hfits, hw, hh, -⟩ := fits_of_check h.decodeCheck
  rw [classOf_bayer h.tag] at hfits
  have hpos : 0 < pixelCount (normalisedState d f s) := by
    rw [normalisedState_frame h.tag]
    exact Nat.mul_pos hw hh
  rw [exec_of_kernelInstr hi, runKernelRow, kernelPass_sp hpos, if_pos]
  rw [normalisedState_frame h.tag]
  exact hfits

/-- A step from there fetches that row and completes the decode (R234, R300). -/
theorem BayerRun.step_between {i : Instr} (hi : kernelInstr a d = some i) :
    step { normalisedState d f s with sp := ⟨.kern, 0, 0⟩ } = .next (decodeCommand f.tag s) := by
  have hkey : pendingKey { normalisedState d f s with sp := ⟨.kern, 0, 0⟩ } = kernelKey a.id d := by
    rw [pendingKey_of_word _ h.tag, ← h.slot, normalisedState_frame h.tag]
    · cases d <;> rfl
    · rw [normalisedState_frame h.tag, decodeWord_eq_ofNat, BitVec.toNat_ofNat, Nat.mod_eq_of_lt]
      have := f.tag.isLt
      omega
  rw [step_kernelRow rfl (by rw [hkey]; exact decode_kernelKey hi), h.exec_kernelInstr hi, h.decodeCommand_eq]
  rfl

end

/-- Settles O37: the key decodes to the kernel of the slot, and the state between the passes differs from the start of
its pass in `SP` only, which the pass sets. -/
theorem bayerRunsKernelRow : Obligations.BayerRunsKernelRow := by
  intro s f d p i hb hs hc hdecode
  have hkey : decode (.kernel (kernelKey (slotFor d s) d)) = .ok i := by cases d <;> exact hdecode
  obtain ⟨a, hslot, hi⟩ := kernel_of_key hkey
  have h : BayerRun f d p a s := ⟨hb, hs, hc, hslot, hasKernel_of_kernelInstr hi⟩
  refine ⟨_, _, _, exec_instr f s, h.between_eq.symm, h.exec_kernelInstr hi, ?_, ?_, h.step_between hi⟩
  · rw [h.decodeCommand_eq, endCommand_rgb]
  · rw [h.decodeCommand_eq, endCommand_raw]

/-! ### The declared phase (R301) -/

theorem emit_rgb_congr {s t : State} (hw : t.width = s.width) (hc : t.ctrl = s.ctrl) (hg : t.rgb = s.rgb) (y x : Nat)
    (q : Rgb) : (emit y x q t).rgb = (emit y x q s).rgb := by
  simp only [emit, writeRgb_rgb, swapRb, hw, hc, hg]

/-- A pass reads the width, the byte order and, to write it, `RGB` (R232). -/
theorem paint_rgb_congr {ph : Phase} {w : Nat} {pixel : Nat → Nat → Rgb} {n k : Nat} {s t : State}
    (hw : t.width = s.width) (hc : t.ctrl = s.ctrl) (hg : t.rgb = s.rgb) :
    (paint ph w pixel n k t).rgb = (paint ph w pixel n k s).rgb := by
  induction n generalizing k s t with
  | zero => exact hg
  | succ n ih => exact ih hw hc (emit_rgb_congr (s := setSp ph (k / w) (k % w) s) hw hc hg ..)

/-- Two declared phases leave the same samples between the passes. -/
theorem normalisedState_raw_eq {f g : Format} {d : Depth} {p q : CfaPhase} (hf : bayerTag f = some (d, p))
    (hg : bayerTag g = some (d, q)) (s : State) : (normalisedState d g s).raw = (normalisedState d f s).raw := by
  rw [normalisedState, normalisedState, committed_bayer hf, committed_bayer hg]
  exact normPass_raw_eq ⟨rfl, rfl, rfl⟩ rfl

/-- Two declared phases leave the same image. -/
theorem kernelPass_rgb_eq {f g : Format} {d : Depth} {p q : CfaPhase} (hf : bayerTag f = some (d, p))
    (hg : bayerTag g = some (d, q)) (a : Alg) (s : State) :
    (kernelPass (kernelPixel a d) (normalisedState d g s)).rgb =
      (kernelPass (kernelPixel a d) (normalisedState d f s)).rgb := by
  have hpixel : kernelPixel a d (normalisedState d g s) = kernelPixel a d (normalisedState d f s) := by
    funext y x
    refine kernelPixel_congr (normalisedState_raw_eq hf hg s) ?_ ?_ ?_ ?_ y x <;>
      rw [normalisedState_frame hf, normalisedState_frame hg]
  rw [kernelPass, kernelPass, hpixel]
  rw [normalisedState_frame hf, normalisedState_frame hg]
  exact paint_rgb_congr rfl rfl rfl

/-- The tags of one depth fail the same check (R225, R226, R228). -/
theorem decodeCheck_eq {f g : Format} {d : Depth} {p q : CfaPhase} (hf : bayerTag f = some (d, p))
    (hg : bayerTag g = some (d, q)) (s : State) : decodeCheck g s = decodeCheck f s := by
  rw [decodeCheck, decodeCheck, classOf_bayer hf, classOf_bayer hg, kernelMissing_bayer hf, kernelMissing_bayer hg]

/-- Settles O38: the tags of a depth are halted alike, fail the same check alike, or run the same two passes behind
different logs. -/
theorem declaredPhaseSameImage : Obligations.DeclaredPhaseSameImage := by
  intro s f g fs hfs hfm hgm
  obtain ⟨d, rfl⟩ : ∃ d, fs = bayerFormats d := by
    obtain rfl | rfl : fs = bayer8Formats ∨ fs = bayer10Formats := by simpa using hfs
    exacts [⟨.d8, rfl⟩, ⟨.d10, rfl⟩]
  obtain ⟨p, hf⟩ := bayerTag_of_mem hfm
  obtain ⟨q, hg⟩ := bayerTag_of_mem hgm
  refine ⟨_, _, exec_instr f s, exec_instr g s, ?_⟩
  have hsame := decodeCheck_eq hf hg s
  cases hs : s.status.halt with
  | true => rw [decodeCommand, decodeCommand, runCommand_halted hs, runCommand_halted hs]
  | false =>
    cases hcheck : decodeCheck f s with
    | some code =>
      rw [decodeCommand_error (arg := f.tag) hs (by rw [resolve_tag]; exact hcheck),
        decodeCommand_error (arg := g.tag) hs (by rw [resolve_tag]; exact hsame.trans hcheck)]
    | none =>
      obtain ⟨a, hrun⟩ := bayerRun_of_decodeCheck hf hs hcheck
      have hrun' : BayerRun g d q a s :=
        ⟨hg, hs, checksPass_of_decodeCheck (hsame.trans hcheck), hrun.slot, hrun.kernel⟩
      have hraw : (decodeCommand g.tag s).raw = (decodeCommand f.tag s).raw := by
        rw [hrun.decodeCommand_eq, hrun'.decodeCommand_eq, endCommand_raw, endCommand_raw, kernelPass, kernelPass,
          paint_raw, paint_raw]
        exact normalisedState_raw_eq hf hg s
      have hrgb : (decodeCommand g.tag s).rgb = (decodeCommand f.tag s).rgb := by
        rw [hrun.decodeCommand_eq, hrun'.decodeCommand_eq]
        exact kernelPass_rgb_eq hf hg a s
      rw [hrun'.completed, hrun.completed, hraw, hrgb]

end Sys2Proof.DispatcherBayer
end

section
/-! PROOFS. The halted engine, the illegal word, the one way into `HALT`, the idle engine and the reset input (R326,
R328, R332, R343, R360). A write of `CMD` is either a `DECODE` or a command whose body can raise no fatal code; the statements
about `HALT` follow from this split. -/

namespace Sys2Proof.Exceptions

open Sys2Proof.Machine Sys2Proof.DispatcherCommon Sys2Proof.DispatcherBayer

/-! ### The idle engine and the reset input (R343, R360, R363) -/

/-- Settles O9: with no pending action the idle step is the identity, and the machine after reset is such a state. -/
theorem idleStays : Obligations.IdleStays :=
  ⟨fun _ hidle hport => step_noAction hidle hport, step_noAction rfl rfl⟩

/-- Settles O13: the registers are those of the reset state, and the memories are the ones of `s`. -/
theorem rstRestores : Obligations.RstRestores := fun s rest hidle hport =>
  ⟨applyRst { s with port := rest }, step_port hidle hport, rfl, rfl, rfl, rfl, rfl,
    fun _ => readRaw_congr rfl _, fun _ => readRgb_congr rfl _, rfl, rfl, rfl⟩

/-! ### A write of `CMD` (R330) -/

/-- The body of a command keeps `STATUS`, which the prologue and the epilogue write, and raises no fatal code. -/
def RaisesNoFatal (body : State → State × ResultCode) : Prop :=
  ∀ s, (body s).1.status = s.status ∧ (body s).2.fatal = false

theorem raisesNoFatal_select : RaisesNoFatal selectBody := by
  intro s
  unfold selectBody
  cases matchingEntry s <;> exact ⟨rfl, rfl⟩

theorem raisesNoFatal_setSharp (value : Half) : RaisesNoFatal (setSharpBody value) := fun _ => ⟨rfl, rfl⟩

theorem raisesNoFatal_list (idx : BitVec 8) : RaisesNoFatal (listBody idx) := by
  intro s
  unfold listBody
  cases allAlgs[idx.toNat]? <;> exact ⟨rfl, rfl⟩

/-- What a write of `CMD` can be: a `DECODE` of the tag in its word, or a command that raises no fatal code, the illegal
word among them (R91, R100). -/
theorem issue_cases (w : Word) (s : State) :
    (∃ arg, w = decodeWord arg ∧ issue w s = .next (decodeCommand arg s)) ∨
      ∃ body, RaisesNoFatal body ∧ issue w s = .next (runCommand false w body s) := by
  unfold issue
  cases hd : decode (.command w) with
  | error e => exact .inr ⟨_, fun _ => ⟨rfl, rfl⟩, rfl⟩
  | ok i =>
    obtain ⟨arg, rfl, rfl⟩ | ⟨rfl, rfl⟩ | ⟨value, rfl, rfl⟩ | ⟨idx, rfl, rfl⟩ := decode_command_cases hd
    · exact .inl ⟨arg, rfl, exec_decodeTag arg s⟩
    · exact .inr ⟨_, raisesNoFatal_select, rfl⟩
    · exact .inr ⟨_, raisesNoFatal_setSharp value, rfl⟩
    · exact .inr ⟨_, raisesNoFatal_list idx, rfl⟩

/-- Settles O18: the decoder refuses the word, and the command raises before anything else is looked at. -/
theorem illegalWordEnds : Obligations.IllegalWordEnds := by
  intro s w rest hidle hs hport hillegal
  obtain ⟨e, he⟩ := decode_illegal hillegal
  have hissue : step s = issue w { s with port := rest } := step_port hidle hport
  have hend : EndedWith { s with port := rest } (illegalCommand w { s with port := rest }) .illegalCmd := by
    rw [illegalCommand, runCommand_ready (by exact hs)]
    exact endedWith_of_raise _ _ _
  exact ⟨_, by rw [hissue, issue, he], hend, word_of_endedWith hend hs⟩

/-! ### The host port (R20, R22) -/

@[simp] theorem storeReg_status (r : Reg) (v : Word) (s : State) : (storeReg r v s).status = s.status := by
  cases r <;> rfl

@[simp] theorem writeReg_status (r : Reg) (v : Word) (s : State) : (writeReg r v s).status = s.status := by
  unfold writeReg
  split
  · rfl
  · exact storeReg_status r v s

/-- A host access other than a write of `CMD` leaves `STATUS` alone, or resets it (R22, R26, R360). -/
theorem hostAccess_status {op : HostOp} {s t : State} (h : hostAccess op s = .next t) :
    t.status = s.status ∨ t.status = State.reset.status := by
  cases op with
  | regWrite i v => cases h; exact .inl (writeReg_status _ _ _)
  | regRead i => cases h; exact .inl rfl
  | rst => cases h; exact .inr rfl
  | rawWrite a v | rawRead a | rgbWrite a v | rgbRead a =>
    simp only [hostAccess] at h
    split at h <;> cases h
    exact .inl rfl

/-- A host action is a write of `CMD` or a plain access (R20, R22). -/
theorem hostStep_cases (op : HostOp) (s : State) :
    (∃ w, op = .regWrite 0 w ∧ hostStep op s = issue w s) ∨ hostStep op s = hostAccess op s := by
  cases op with
  | regWrite i w =>
    by_cases hi : i = 0
    · subst hi; exact .inl ⟨w, rfl, rfl⟩
    · exact .inr (if_neg hi)
  | _ => exact .inr rfl

/-! ### The halted engine (R332) -/

section
variable {s : State} (hs : s.status.halt = true)
include hs

theorem decodeCommand_halted (arg : BitVec 8) : decodeCommand arg s = s := runCommand_halted hs _ _ _

theorem issue_halted (w : Word) : issue w s = .next s := by
  obtain ⟨arg, -, h⟩ | ⟨body, -, h⟩ := issue_cases w s
  · rw [h, decodeCommand_halted hs]
  · rw [h, runCommand_halted hs]

theorem hostStep_regWrite_halted (index : BitVec 5) (v : Word) : hostStep (.regWrite index v) s = .next s := by
  obtain ⟨w, -, h⟩ | h := hostStep_cases (.regWrite index v) s
  · rw [h, issue_halted hs]
  · rw [h, hostAccess, writeReg, if_pos hs]

end

/-- Settles O11: every way to write a register and every command looks at `HALT` first; a store to `RAW` does not. -/
theorem haltedWritesIgnored : Obligations.HaltedWritesIgnored := by
  intro s hs
  refine ⟨fun index v rest hidle hport => ?_, ?_, fun v => ?_, fun idx => ?_, fun f i hi => ?_,
    fun a v rest hidle hport ha => ?_⟩
  · rw [step_port hidle hport]
    exact hostStep_regWrite_halted (s := { s with port := rest }) hs index v
  · rw [exec_select, execSelect, runCommand_halted hs]
  · rw [exec_setsharp, execSetsharp, runCommand_halted hs]
  · rw [exec_list, execList, runCommand_halted hs]
  · obtain ⟨arg, -, -, hexec⟩ := exec_of_decodesAs hi
    rw [hexec, decodeCommand_halted hs]
  · have hrun : step s = .next (writeRaw a.toNat v { s with port := rest }) := by
      rw [step_port hidle hport]
      exact if_pos ha
    exact ⟨_, hrun, readRaw_writeRaw_same _ v _⟩

/-! ### What can set `HALT` (R332) -/

/-- A command that raises no fatal code leaves a ready engine ready (R330). -/
theorem runCommand_halt_of_raisesNoFatal {s : State} {b : Bool} {w : Word} {body : State → State × ResultCode}
    (hs : s.status.halt = false) (hbody : RaisesNoFatal body) : (runCommand b w body s).status.halt = false := by
  obtain ⟨hstatus, hfatal⟩ := hbody (beginCommand w s)
  simp [runCommand_ready hs, Status.ended, Status.accepted, hstatus, hfatal, hs]

/-- The path of a format leaves `STATUS` alone (R237). -/
theorem runPath_status (f : Format) (s : State) : (runPath f s).status = s.status := by
  unfold runPath
  split
  · rw [bayerPath, reconstruct_frame, normPass_frame]
  · rw [scanPath_frame]

/-- The commit leaves `STATUS` as the prologue set it (R229). -/
theorem committed_status (f : Format) (b : Bool) (arg : BitVec 8) (s : State) :
    (committed f b arg s).status = s.status.accepted := by
  rw [committed, commit_frame]; rfl

/-- A `DECODE` halts a ready engine only where its checks raise `F_NO_KERNEL` (R328, R332). -/
theorem decodeCheck_of_decodeCommand_halt {arg : BitVec 8} {s : State} (hs : s.status.halt = false)
    (h : (decodeCommand arg s).status.halt = true) : decodeCheck (resolve arg).1 s = some .noKernel := by
  obtain ⟨hs', -⟩ | ⟨-, code, hcheck, hrun⟩ | ⟨-, -, hrun⟩ := decodeCommand_cases arg s
  · rw [hs] at hs'; cases hs'
  · have hfatal : code.fatal = true := by simpa [hrun, Status.ended, hs] using h
    obtain rfl | rfl | rfl := decodeCheck_code hcheck
    · cases hfatal
    · cases hfatal
    · exact hcheck
  · simp [hrun, runPath_status, committed_status, Status.ended, Status.accepted, ResultCode.fatal, hs] at h

/-- The one way of a host action to halt a ready engine (R328, R332). -/
theorem decode_of_hostStep_halt {op : HostOp} {s t : State} (hs : s.status.halt = false)
    (hrun : hostStep op s = .next t) (ht : t.status.halt = true) :
    ∃ arg, op = .regWrite 0 (decodeWord arg) ∧ t = decodeCommand arg s ∧
      decodeCheck (resolve arg).1 s = some .noKernel := by
  obtain ⟨w, rfl, hissue⟩ | haccess := hostStep_cases op s
  · obtain ⟨arg, rfl, hdecode⟩ | ⟨body, hbody, hcommand⟩ := issue_cases w s
    · cases hdecode.symm.trans (hissue.symm.trans hrun)
      exact ⟨arg, rfl, rfl, decodeCheck_of_decodeCommand_halt hs ht⟩
    · cases hcommand.symm.trans (hissue.symm.trans hrun)
      rw [runCommand_halt_of_raisesNoFatal hs hbody] at ht; cases ht
  · obtain h | h := hostAccess_status (haccess.symm.trans hrun)
    · rw [h, hs] at ht; cases ht
    · rw [h] at ht; cases ht

/-! ### Which slots can be empty (R27, R139) -/

/-- The 8-bit slot always holds an algorithm, all of which have an 8-bit kernel; the 10-bit slot holds one with a 10-bit
kernel, or "no kernel" (R139). -/
theorem slots_of_selLegal {s : State} (h : SelLegal s) :
    (∃ a : Alg, s.sel8 = a.id) ∧
      ((∃ a : Alg, s.sel10 = a.id ∧ hasKernel a .d10 = true) ∨ s.sel10 = noKernelId) := by
  obtain ⟨h8, h10⟩ | ⟨a, -, h8, h10⟩ := h
  · exact ⟨⟨.gptm, h8⟩, .inl ⟨.cottnoip, h10, rfl⟩⟩
  · refine ⟨⟨a, h8⟩, ?_⟩
    split at h10
    · next hk => exact .inl ⟨a, h10, hk⟩
    · exact .inr h10

/-- With a legal `SEL` only a 10-bit Bayer format can miss its kernel, and only with "no kernel" in the slot (R305). -/
theorem bayer10_of_kernelMissing {f : Format} {s : State} (hsel : SelLegal s) (h : kernelMissing f s = true) :
    ∃ p, bayerTag f = some (.d10, p) ∧ s.sel10 = noKernelId := by
  obtain ⟨⟨a, h8⟩, h10⟩ := slots_of_selLegal hsel
  cases hb : bayerTag f with
  | none => rw [kernelMissing_plain hb] at h; cases h
  | some q =>
    obtain ⟨d, p⟩ := q
    cases d with
    | d8 => rw [kernelMissing_of_id hb h8 (by cases a <;> rfl)] at h; cases h
    | d10 =>
      obtain ⟨b, hslot, hk⟩ | hempty := h10
      · rw [kernelMissing_of_id hb hslot hk] at h; cases h
      · exact ⟨p, rfl, hempty⟩

/-- Checks that raise `F_NO_KERNEL` have found the kernel missing (R333). -/
theorem kernelMissing_of_check {f : Format} {s : State} (h : decodeCheck f s = some .noKernel) :
    kernelMissing f s = true := by
  unfold decodeCheck at h
  split at h
  · cases h
  · split at h
    · cases h
    · split at h
      · assumption
      · cases h

/-- A tag that resolves to a Bayer format is the tag of that format, not a fallback (R224). -/
theorem tag_of_resolve_bayer {arg : BitVec 8} {q : Depth × CfaPhase} (h : bayerTag (resolve arg).1 = some q) :
    (resolve arg).1.tag = arg := by
  unfold resolve at h ⊢
  split at h
  · next f hf => simpa [hf] using tag_of_ofTag hf
  · cases h

theorem toNat_decodeWord (arg : BitVec 8) : (decodeWord arg).toNat = 1 + 256 * arg.toNat := by
  have := arg.isLt
  rw [decodeWord_eq_ofNat, BitVec.toNat_ofNat]
  omega

/-- Settles O55: the step is a `DECODE` that raises `F_NO_KERNEL`, which by the legal `SEL` of the invariant is one of a
10-bit Bayer tag with an empty slot; such a `DECODE` changes `STATUS` only. -/
theorem onlyEmptySlotHalts : Obligations.OnlyEmptySlotHalts := by
  intro s t hinv hs hrun ht
  have hidle : s.sp.phase = .idle := by rw [hinv.quiet.1]; rfl
  cases hport : s.port with
  | nil =>
    obtain rfl : s = t := by simpa [step_noAction hidle hport] using hrun
    rw [hs] at ht; cases ht
  | cons op rest =>
    obtain ⟨arg, rfl, rfl, hcheck⟩ :=
      decode_of_hostStep_halt (s := { s with port := rest }) hs ((step_port hidle hport).symm.trans hrun) ht
    obtain ⟨p, hb, hempty⟩ := bayer10_of_kernelMissing hinv.selLegal (kernelMissing_of_check hcheck)
    have hmem : (resolve arg).1 ∈ bayer10Formats := by simpa using mem_bayerFormats hb
    obtain ⟨hend, -⟩ := decodeCommand_endedWith (s := { s with port := rest }) hs hcheck
    refine ⟨decodeWord arg, rest, (resolve arg).1, rfl, hmem, ?_, hempty, ?_, fun _ => ?_, fun _ => ?_, ?_⟩
    · rw [tag_of_resolve_bayer hb, toNat_decodeWord]
    · rw [hend]
    · rw [hend]; exact readRaw_congr rfl _
    · rw [hend]; exact readRgb_congr rfl _
    · rw [hend]

end Sys2Proof.Exceptions
end

section
/-! PROOFS. What a write of `CMD` does to a ready engine (R21, R73, R330) and where an instruction is placed (logs 4,
5). Every command is prologue, body, epilogue; the bodies that are no `DECODE` share the few facts collected in
`PlainBody`, so that a statement about all commands has one case for them and one for `DECODE`. -/

namespace Sys2Proof.Sequencing

open Sys2Proof.Machine Sys2Proof.DispatcherCommon Sys2Proof.Exceptions

/-! ### The bodies that are no `DECODE` (R100, R131, R135, R137) -/

/-- `t` has the host's actions, the memories and their sizes of `s`, and in `SEL` what `s` holds or the result of a
`SELECT` (R131). -/
structure PlainUpdate (s t : State) : Prop where
  port : t.port = s.port
  raw : t.raw = s.raw
  rgb : t.rgb = s.rgb
  rawSize : t.rawSize = s.rawSize
  rgbSize : t.rgbSize = s.rgbSize
  selLegal : SelLegal s → SelLegal t

theorem PlainUpdate.refl (s : State) : PlainUpdate s s := ⟨rfl, rfl, rfl, rfl, rfl, id⟩

theorem plainUpdate_selectEntry (a : Alg) (s : State) : PlainUpdate s (selectEntry a s) :=
  ⟨rfl, rfl, rfl, rfl, rfl, fun _ => .inr ⟨a, mem_allAlgs a, rfl, rfl⟩⟩

theorem plainUpdate_listEntry (idx : BitVec 8) (a : Alg) (s : State) : PlainUpdate s (listEntry idx a s) :=
  ⟨rfl, rfl, rfl, rfl, rfl, id⟩

/-- What the bodies of `SELECT`, `SETSHARP`, `LIST` and of an illegal word have in common. -/
structure PlainBody (body : State → State × ResultCode) : Prop where
  raises : RaisesNoFatal body
  update : ∀ s, PlainUpdate s (body s).1

theorem plainBody_select : PlainBody selectBody := by
  refine ⟨raisesNoFatal_select, fun s => ?_⟩
  unfold selectBody
  cases matchingEntry s with
  | some a => exact plainUpdate_selectEntry a s
  | none => exact .refl s

theorem plainBody_setSharp (value : Half) : PlainBody (setSharpBody value) :=
  ⟨raisesNoFatal_setSharp value, fun _ => ⟨rfl, rfl, rfl, rfl, rfl, id⟩⟩

theorem plainBody_list (idx : BitVec 8) : PlainBody (listBody idx) := by
  refine ⟨raisesNoFatal_list idx, fun s => ?_⟩
  unfold listBody
  cases allAlgs[idx.toNat]? with
  | some a => exact plainUpdate_listEntry idx a s
  | none => exact .refl s

theorem plainBody_illegal : PlainBody fun t => (t, .illegalCmd) := ⟨fun _ => ⟨rfl, rfl⟩, .refl⟩

/-- A write of `CMD` is a `DECODE` or a command with one of these bodies (R91, R100). -/
theorem issue_plain_cases (w : Word) (s : State) :
    (∃ arg, issue w s = .next (decodeCommand arg s)) ∨
      ∃ body, PlainBody body ∧ issue w s = .next (runCommand false w body s) := by
  unfold issue
  cases hd : decode (.command w) with
  | error e => exact .inr ⟨_, plainBody_illegal, rfl⟩
  | ok i =>
    obtain ⟨arg, rfl, rfl⟩ | ⟨rfl, rfl⟩ | ⟨value, rfl, rfl⟩ | ⟨idx, rfl, rfl⟩ := decode_command_cases hd
    · exact .inl ⟨arg, exec_decodeTag arg s⟩
    · exact .inr ⟨_, plainBody_select, rfl⟩
    · exact .inr ⟨_, plainBody_setSharp value, rfl⟩
    · exact .inr ⟨_, plainBody_list idx, rfl⟩

/-! ### A command ends in its step (R21, R330) -/

/-- The path of a format leaves the host's actions alone (R237). -/
theorem runPath_port (f : Format) (s : State) : (runPath f s).port = s.port := by
  unfold runPath
  split
  · rw [bayerPath, reconstruct_frame, normPass_frame]
  · rw [scanPath_frame]

theorem committed_port (f : Format) (b : Bool) (arg : BitVec 8) (s : State) :
    (committed f b arg s).port = s.port := by
  rw [committed, commit_frame]; rfl

/-- On a ready engine the step of a write of `CMD` ends with the epilogue, the host's actions as they were (R330). -/
theorem issue_ends {s : State} (hs : s.status.halt = false) (w : Word) :
    ∃ b code u, issue w s = .next (endCommand b code u) ∧ u.port = s.port := by
  obtain ⟨arg, h⟩ | ⟨body, hbody, h⟩ := issue_plain_cases w s
  · obtain ⟨hs', -⟩ | ⟨-, code, -, herror⟩ | ⟨-, -, hpass⟩ := decodeCommand_cases arg s
    · rw [hs] at hs'; cases hs'
    · exact ⟨false, code, s, by rw [h, herror]; rfl, rfl⟩
    · exact ⟨true, .ok, _, by rw [h, hpass], by rw [runPath_port, committed_port]⟩
  · exact ⟨false, _, _, h.trans (congrArg _ (runCommand_ready hs _ _ _)), (hbody.update (beginCommand w s)).port⟩

/-- A step that takes a write of `CMD` issues the command, the action consumed (R20). -/
theorem step_cmd {s : State} {w : Word} {rest : List HostOp} (hidle : s.sp.phase = .idle)
    (hport : s.port = .regWrite 0 w :: rest) : step s = issue w { s with port := rest } := step_port hidle hport

/-- Settles O10: whatever the word is, the command ends with the epilogue, which sets the fields the statement names. -/
theorem commandEnds : Obligations.CommandEnds := by
  intro s w rest hidle hs hport
  obtain ⟨b, code, u, hissue, hu⟩ := issue_ends (s := { s with port := rest }) hs w
  exact ⟨_, (step_cmd hidle hport).trans hissue, rfl, rfl, rfl, rfl, hu⟩

/-! ### The step of a decoded word (R73, R90) -/

theorem issue_of_decode {w : Word} {i : Instr} (h : decode (.command w) = .ok i) (s : State) :
    issue w s = exec i s := by
  rw [issue, h]

/-- Settles O6: the idle engine takes the write of `CMD`, and the word it carries decodes. -/
theorem stepRunsCommand : Obligations.StepRunsCommand := fun s w rest i hidle hport hdecode => by
  rw [step_cmd hidle hport, issue_of_decode hdecode]

/-! ### The step of a placed code (logs 4, 5) -/

/-- The bits of a table row that decode are a command word above 8 bits, and else a kernel key. -/
theorem decodeTableWord_cases {nbits w : Nat} {i : Instr} (h : decodeTableWord nbits w = some i) :
    (8 < nbits ∧ codeOfBits nbits w = some (.command (BitVec.ofNat 32 w)) ∧
        decode (.command (BitVec.ofNat 32 w)) = .ok i) ∨
      (nbits ≤ 8 ∧ w < 32 ∧ codeOfBits nbits w = some (.kernel (BitVec.ofNat 5 w)) ∧
        decode (.kernel (BitVec.ofNat 5 w)) = .ok i) := by
  have hdecode : ∃ c, codeOfBits nbits w = some c ∧ decode c = .ok i := by
    unfold decodeTableWord at h
    split at h
    · cases h
    · next c hc =>
      split at h <;> cases h
      next hd => exact ⟨c, hc, hd⟩
  obtain ⟨c, hc, hd⟩ := hdecode
  have hbits := hc
  unfold codeOfBits at hbits
  by_cases hn : nbits ≤ 8
  · rw [if_pos hn] at hbits
    split at hbits <;> cases hbits
    next hw => exact .inr ⟨hn, hw, hc, hd⟩
  · rw [if_neg hn] at hbits
    split at hbits <;> cases hbits
    exact .inl ⟨by omega, hc, hd⟩

/-- Bit 4 of a key is the depth, the bits below it the id (R98). -/
theorem key_fields_low {w : Nat} (h : w < 16) :
    (BitVec.ofNat 5 w).extractLsb' 4 1 ≠ 1#1 ∧ (BitVec.ofNat 5 w).extractLsb' 0 4 = BitVec.ofNat 4 w ∧
      kernelKey (BitVec.ofNat 4 w) .d8 = BitVec.ofNat 5 w := by
  revert w; decide

@[inherit_doc key_fields_low]
theorem key_fields_high {w : Nat} (h : w < 32) (h16 : ¬w < 16) :
    (BitVec.ofNat 5 w).extractLsb' 4 1 = 1#1 ∧ (BitVec.ofNat 5 w).extractLsb' 0 4 = BitVec.ofNat 4 (w - 16) ∧
      kernelKey (BitVec.ofNat 4 (w - 16)) .d10 = BitVec.ofNat 5 w := by
  revert w; decide

/-- The state in which a kernel key is placed: a Bayer decode of the key's depth at the start of its kernel pass, the
key's id in the slot of that depth (log 5). -/
def placedKernel (w : Nat) (s : State) : State :=
  { s with
    sp := ⟨.kern, 0, 0⟩
    status := { s.status with busy := true, done := false }
    cmd := if w < 16 then 0x00006001#32 else 0x00006801#32
    sel8 := if w < 16 then BitVec.ofNat 4 w else s.sel8
    sel10 := if w < 16 then s.sel10 else BitVec.ofNat 4 (w - 16) }

theorem placeKernel_eq {w : Nat} (h : w < 32) (s : State) :
    placeKernel (BitVec.ofNat 5 w) s = placedKernel w s := by
  unfold placeKernel placedKernel
  by_cases hw : w < 16
  · obtain ⟨hdepth, hid, -⟩ := key_fields_low hw
    simp only [if_neg hdepth, hid, if_pos hw]
    rfl
  · obtain ⟨hdepth, hid, -⟩ := key_fields_high h hw
    simp only [if_pos hdepth, hid, if_neg hw]
    rfl

/-- The key that the step fetches there is the one placed. -/
theorem pendingKey_placedKernel {w : Nat} (h : w < 32) (s : State) :
    pendingKey (placedKernel w s) = BitVec.ofNat 5 w := by
  by_cases hw : w < 16
  · rw [pendingKey_d8 (if_pos hw), ← (key_fields_low hw).2.2]
    exact congrArg (kernelKey · .d8) (if_pos hw)
  · rw [pendingKey_d10 (if_neg hw), ← (key_fields_high h hw).2.2]
    exact congrArg (kernelKey · .d10) (if_neg hw)

/-- Settles O8: a command word is placed as a write of `CMD`, which O6 speaks of; a key is placed so that the kernel
phase fetches it back. -/
theorem placedWordRuns : Obligations.PlacedWordRuns := by
  intro s nbits w i h
  obtain ⟨hn, hc, hd⟩ | ⟨hn, hw, hc, hd⟩ := decodeTableWord_cases h
  · refine ⟨fun _ => ?_, fun hle => absurd hle (Nat.not_le.2 hn)⟩
    rw [State.withFetchWord, hc]
    exact stepRunsCommand (placeCommand (BitVec.ofNat 32 w) s) _ s.port i rfl rfl hd
  · refine ⟨fun hlt => absurd hn (Nat.not_le.2 hlt), fun _ => ?_⟩
    have hplaced : s.withFetchWord nbits w = placedKernel w s := by
      rw [State.withFetchWord, hc]
      exact placeKernel_eq hw s
    have hstep : step (placedKernel w s) = completeKernel (exec i (placedKernel w s)) :=
      step_kernelRow rfl (by rw [pendingKey_placedKernel hw]; exact hd)
    exact ⟨hplaced, hstep.trans (completeKernel_eq _)⟩

end Sys2Proof.Sequencing
end

section
/-! PROOFS. The invariant of the machine between commands (R27, R30, R40, R131, R327, R330). What it says of the
memories and of `SEL` is a property of its own, `Stored`, which every pass of a `DECODE` and every other body keeps; what
it says of `STATUS` and `SP` the epilogue of a command establishes. -/

namespace Sys2Proof.MachineInvariant

open Sys2Proof.Machine Sys2Proof.DispatcherCommon Sys2Proof.DispatcherBayer Sys2Proof.Exceptions Sys2Proof.Sequencing

/-! ### The part of the invariant that a command in flight keeps (R27, R40) -/

/-- The part of `Inv` about the memories and `SEL`. -/
structure Stored (s : State) : Prop where
  rawForm : Memory.wf s.raw
  rgbForm : Memory.wf s.rgb
  rawInside : Memory.within s.raw s.rawSize.toNat
  rgbInside : Memory.within s.rgb s.rgbSize.toNat
  selLegal : SelLegal s

theorem stored_of_inv {s : State} (h : Inv s) : Stored s :=
  ⟨h.rawForm, h.rgbForm, h.rawInside, h.rgbInside, h.selLegal⟩

theorem Stored.update {s t : State} (h : Stored s) (ht : PlainUpdate s t) : Stored t where
  rawForm := ht.raw ▸ h.rawForm
  rgbForm := ht.rgb ▸ h.rgbForm
  rawInside := by rw [ht.raw, ht.rawSize]; exact h.rawInside
  rgbInside := by rw [ht.rgb, ht.rgbSize]; exact h.rgbInside
  selLegal := ht.selLegal h.selLegal

/-- A raster pass over a plane whose output lies inside `RGB` (R68, R236). -/
theorem Stored.paint {s : State} (h : Stored s) (hfit : 3 * pixelCount s ≤ s.rgbSize.toNat) (ph : Phase)
    (pixel : Nat → Nat → Rgb) : Stored (paint ph s.width.toNat pixel (pixelCount s) 0 s) := by
  have hform := wf_paint ph s.width.toNat pixel (pixelCount s) 0 s h.rgbForm
  have hinside := within_paint ph s.width.toNat pixel (pixelCount s) 0 s.rgbSize.toNat s rfl (by omega) h.rgbInside
  rw [paint_frame]
  exact ⟨h.rawForm, hform, h.rawInside, hinside, h.selLegal⟩

/-- The normalisation of a plane that lies inside `RAW` (R68, R303). -/
theorem Stored.normPass {d : Depth} {s : State} (h : Stored s)
    (hfit : (s.height.toNat - 1) * s.stride.toNat + containerBytes d * s.width.toNat ≤ s.rawSize.toNat) :
    Stored (normPass d s.width.toNat (pixelCount s) 0 s) := by
  have hform := wf_normPass d s.width.toNat (pixelCount s) 0 s h.rawForm
  have hinside := within_normPass d s.width.toNat (pixelCount s) 0 s.rawSize.toNat s
    (fun j _ hj => by
      rw [Nat.zero_add, pixelCount] at hj
      have hw : 0 < s.width.toNat := Nat.pos_of_mul_pos_right (Nat.zero_lt_of_lt hj)
      exact Nat.le_trans (sampleAddr_bound (Nat.div_lt_of_lt_mul hj) (Nat.mod_lt j hw)) hfit) h.rawInside
  rw [normPass_frame]
  exact ⟨hform, h.rgbForm, hinside, h.rgbInside, h.selLegal⟩

theorem Stored.sourceAfter {f : Format} {s : State} (h : Stored s)
    (hfit : sourceNeed f s.width.toNat s.height.toNat s.stride.toNat ≤ s.rawSize.toNat) :
    Stored (sourceAfter f s) := by
  cases hb : bayerTag f with
  | none => rw [sourceAfter_plain hb]; exact h
  | some dp =>
    obtain ⟨d, p⟩ := dp
    rw [sourceAfter_bayer hb]
    exact h.normPass (by rw [← sourceNeed_bayer hb]; exact hfit)

/-- What the buffer check of a passing `DECODE` gives about the memories (R68, R228). -/
theorem fits_memories {f : Format} {s : State} (h : decodeCheck f s = none) :
    sourceNeed f s.width.toNat s.height.toNat s.stride.toNat ≤ s.rawSize.toNat ∧
      3 * pixelCount s ≤ s.rgbSize.toNat := by
  have hbuf := (buffersHold_iff f s).1 (decodeCheck_none.1 h).2.1
  unfold BufferBad at hbuf
  rw [Nat.mul_assoc, ← pixelCount] at hbuf
  omega

/-- The path of a `DECODE` that passed its checks (R237). -/
theorem Stored.runPath {f : Format} {s : State} (h : Stored s) (hc : decodeCheck f s = none) :
    Stored (runPath f s) := by
  obtain ⟨hsrc, hdst⟩ := fits_memories hc
  obtain ⟨ph, hpath⟩ := runPath_eq_paint (decodeCheck_none.1 hc).2.2
  have hfit : 3 * pixelCount (DispatcherCommon.sourceAfter f s) ≤
      (DispatcherCommon.sourceAfter f s).rgbSize.toNat := by
    rw [sourceAfter_frame]; exact hdst
  rw [hpath]
  exact (h.sourceAfter hsrc).paint hfit ph _

/-- The commit logs and counts, which is no part of `Stored`, nor of the checks (R229). -/
theorem Stored.committed {arg : BitVec 8} {s : State} (h : Stored s) :
    Stored (committed (resolve arg).1 (resolve arg).2 arg s) := by
  have hr : resolve arg = ((resolve arg).1, (resolve arg).2) := rfl
  rw [committed_eq hr]
  exact h.update ⟨rfl, rfl, rfl, rfl, rfl, id⟩

theorem decodeCheck_committed (arg : BitVec 8) (s : State) :
    decodeCheck (resolve arg).1 (committed (resolve arg).1 (resolve arg).2 arg s) = decodeCheck (resolve arg).1 s := by
  have hr : resolve arg = ((resolve arg).1, (resolve arg).2) := rfl
  refine (sameInput_committed hr s).decodeCheck ?_ ?_ ?_ ?_ <;> rw [committed_eq hr]

/-! ### Commands (R327, R330) -/

/-- The epilogue of a command on a ready engine establishes the rest of the invariant. -/
theorem inv_endCommand {u : State} (h : Stored u) (hs : u.status.halt = false) {code : ResultCode}
    (hcode : code ≠ .scratch) (b : Bool) : Inv (endCommand b code u) where
  rawForm := h.rawForm
  rgbForm := h.rgbForm
  rawInside := h.rawInside
  rgbInside := h.rgbInside
  quiet := ⟨rfl, rfl, rfl⟩
  selLegal := h.selLegal
  noScratch := hcode
  haltFatal := by rw [endCommand_status, Status.ended, hs, Bool.false_or]
  warnOk := fun hwarn => by
    have hset : (b && decide (code = .ok) && decide (u.warnCount ≠ 0)) = true := hwarn
    simp only [Bool.and_eq_true, decide_eq_true_eq] at hset
    obtain ⟨⟨-, hok⟩, hcount⟩ := hset
    exact ⟨hok, hcount⟩
  endedDone := fun _ => rfl

/-- Settles O57: the memories are empty, and `SEL` is the reset pairing. -/
theorem invReset : Obligations.InvReset where
  rawForm := .nil
  rgbForm := .nil
  rawInside := fun _ hc => nomatch hc
  rgbInside := fun _ hc => nomatch hc
  quiet := ⟨rfl, rfl, rfl⟩
  selLegal := .inl ⟨rfl, rfl⟩
  noScratch := by decide
  haltFatal := rfl
  warnOk := by decide
  endedDone := by decide

section
variable {s : State} (h : Inv s)
include h

/-- `DECODE` (R221): halted it is ignored, a failing check is an epilogue on `s`, and a passing one an epilogue on what
its path stored. -/
theorem inv_decodeCommand (arg : BitVec 8) : Inv (decodeCommand arg s) := by
  obtain ⟨-, hrun⟩ | ⟨hs, code, hcheck, hrun⟩ | ⟨hs, hcheck, hrun⟩ := decodeCommand_cases arg s
  · rw [hrun]; exact h
  · have hcode : code ≠ .scratch := by obtain rfl | rfl | rfl := decodeCheck_code hcheck <;> decide
    rw [hrun]
    exact inv_endCommand (stored_of_inv h) hs hcode false
  · have hstored := (stored_of_inv h).committed.runPath ((decodeCheck_committed arg s).trans hcheck)
    rw [hrun]
    exact inv_endCommand hstored (by rw [runPath_status, committed_status]; exact hs) (by decide) true

theorem inv_runCommand {body : State → State × ResultCode} (hbody : PlainBody body) (w : Word) :
    Inv (runCommand false w body s) := by
  cases hs : s.status.halt with
  | true => rw [runCommand_halted hs]; exact h
  | false =>
    obtain ⟨hstatus, hfatal⟩ := hbody.raises (beginCommand w s)
    have hbegin : Stored (beginCommand w s) := (stored_of_inv h).update ⟨rfl, rfl, rfl, rfl, rfl, id⟩
    have hcode : (body (beginCommand w s)).2 ≠ .scratch := fun hscratch => by
      rw [hscratch] at hfatal; cases hfatal
    rw [runCommand_ready hs]
    exact inv_endCommand (hbegin.update (hbody.update _)) (by rw [hstatus]; exact hs) hcode false

theorem inv_issue {w : Word} {t : State} (ht : issue w s = .next t) : Inv t := by
  obtain ⟨arg, hissue⟩ | ⟨body, hbody, hissue⟩ := issue_plain_cases w s
  · cases hissue.symm.trans ht
    exact inv_decodeCommand h arg
  · cases hissue.symm.trans ht
    exact inv_runCommand h hbody w

/-! ### The host's other accesses (R22, R40, R360) -/

/-- `t` differs from `s` in nothing that `Inv` reads. -/
theorem inv_of_update {t : State} (ht : PlainUpdate s t) (hsp : t.sp = s.sp) (hstatus : t.status = s.status)
    (hcmd : t.cmd = s.cmd) (hcount : t.warnCount = s.warnCount) : Inv t := by
  obtain ⟨hrawForm, hrgbForm, hrawInside, hrgbInside, hsel⟩ := (stored_of_inv h).update ht
  refine ⟨hrawForm, hrgbForm, hrawInside, hrgbInside, ?_, hsel, ?_, ?_, ?_, ?_⟩
  · rw [Quiet, hsp, hstatus, hcmd]; exact h.quiet
  · rw [hstatus]; exact h.noScratch
  · rw [hstatus]; exact h.haltFatal
  · rw [hstatus, hcount]; exact h.warnOk
  · rw [hstatus]; exact h.endedDone

theorem inv_writeReg (r : Reg) (v : Word) : Inv (writeReg r v s) := by
  unfold writeReg
  split
  · exact h
  · cases r <;> exact inv_of_update h ⟨rfl, rfl, rfl, rfl, rfl, id⟩ rfl rfl rfl rfl

theorem inv_writeRaw {a : Nat} (ha : a < s.rawSize.toNat) (v : Byte) : Inv (writeRaw a v s) :=
  { h with
    rawForm := wf_memStore h.rawForm a v
    rawInside := within_memStore h.rawInside ha v }

theorem inv_writeRgb {a : Nat} (ha : a < s.rgbSize.toNat) (v : Byte) : Inv (writeRgb a v s) :=
  { h with
    rgbForm := wf_memStore h.rgbForm a v
    rgbInside := within_memStore h.rgbInside ha v }

/-- The reset input leaves the registers of the reset state and the memories of `s` (R360). -/
theorem inv_applyRst : Inv (applyRst s) :=
  { invReset with
    rawForm := h.rawForm
    rgbForm := h.rgbForm
    rawInside := h.rawInside
    rgbInside := h.rgbInside }

theorem inv_hostAccess {op : HostOp} {t : State} (ht : hostAccess op s = .next t) : Inv t := by
  have hread (v : Word) : Inv { s with rdata := v } :=
    inv_of_update h ⟨rfl, rfl, rfl, rfl, rfl, id⟩ rfl rfl rfl rfl
  cases op with
  | regWrite i v => cases ht; exact inv_writeReg h _ _
  | regRead i => cases ht; exact hread _
  | rst => cases ht; exact inv_applyRst h
  | rawWrite a v =>
    simp only [hostAccess] at ht
    split at ht <;> cases ht
    next ha => exact inv_writeRaw h ha v
  | rgbWrite a v =>
    simp only [hostAccess] at ht
    split at ht <;> cases ht
    next ha => exact inv_writeRgb h ha v
  | rawRead a | rgbRead a =>
    simp only [hostAccess] at ht
    split at ht <;> cases ht
    exact hread _

theorem inv_hostStep {op : HostOp} {t : State} (ht : hostStep op s = .next t) : Inv t := by
  obtain ⟨w, -, hissue⟩ | haccess := hostStep_cases op s
  · exact inv_issue h (hissue.symm.trans ht)
  · exact inv_hostAccess h (haccess.symm.trans ht)

end

/-! ### The step (R20) -/

/-- Settles O56: the invariant holds between commands, so the engine is idle and the step is one action of the host, the
list of actions being no part of it. -/
theorem invKept : Obligations.InvKept := by
  intro s t h hrun
  have hidle : s.sp.phase = .idle := by rw [h.quiet.1]; rfl
  cases hport : s.port with
  | nil =>
    cases (step_noAction hidle hport).symm.trans hrun
    exact h
  | cons op rest =>
    have hrest : Inv { s with port := rest } := { h with }
    exact inv_hostStep hrest ((step_port hidle hport).symm.trans hrun)

end Sys2Proof.MachineInvariant
end

section
/-! PROOFS. The register bank and the memories as the host sees them (R22, R23, R40, R43, R332). The statements speak of
the bank as a list of words, the model of one register at a time: `readReg_regAt` ties the two. -/

namespace Sys2Proof.HostView

open Sys2Proof.Machine Sys2Proof.Exceptions

/-! ### The words of the bank (R22, R26, R27) -/

/-- A register of fewer bits as the host reads it. -/
theorem append_zero_eq_setWidth {n m : Nat} (v : BitVec m) : (0#n ++ v) = v.setWidth (n + m) := by
  apply BitVec.eq_of_toNat_eq
  have hv : v.toNat < 2 ^ (n + m) := Nat.lt_of_lt_of_le v.isLt (Nat.pow_le_pow_right (by decide) (by omega))
  simp [BitVec.toNat_append, Nat.mod_eq_of_lt hv]

theorem statusWord_eq (f : Status) :
    f.word = BitVec.ofNat 32 (f.busy.toNat + 2 * f.done.toNat + 4 * f.halt.toNat + 8 * f.warn.toNat +
      16 * resultNumber f.result) := by
  obtain ⟨busy, done, halt, warn, result⟩ := f
  cases busy <;> cases done <;> cases halt <;> cases warn <;> cases result <;> rfl

theorem selWord_eq (sel10 sel8 : BitVec 4) :
    (0#24 ++ sel10 ++ sel8 : Word) = BitVec.ofNat 32 (sel8.toNat + 16 * sel10.toNat) := by
  revert sel10 sel8; decide

/-- The registers at the offsets 0x00 to 0x54, in order (R22). -/
def bankRegs : List Reg :=
  [.cmd, .status, .ctrl, .width, .height, .stride, .rawLen, .rgbLen, .brightness, .sharpness, .sel, .warnCount,
   .name0, .name1, .name2, .name3, .lname0, .lname1, .lname2, .lname3, .lflags, .nalg]

theorem regAt_eq (index : BitVec 5) : regAt index = bankRegs.getD index.toNat .reserved := by
  revert index; decide

/-- The words of the bank are what its registers read. -/
theorem bankWords_eq (s : State) : bankWords s = bankRegs.map fun r => readReg r s := by
  simp only [bankWords, ← statusWord_eq, ← selWord_eq, ← append_zero_eq_setWidth (n := 30) s.ctrl,
    ← append_zero_eq_setWidth (n := 16)]
  rfl

/-- The register at an offset, as the bank lists it. -/
theorem readReg_regAt (index : BitVec 5) (s : State) : readReg (regAt index) s = (bankWords s).getD index.toNat 0 := by
  rw [regAt_eq, bankWords_eq]
  exact (List.getD_map bankRegs Reg.reserved fun r => readReg r s).symm

/-- Settles O14: a read of a register is one access of the idle engine, which stores the word it returns. -/
theorem registerReads : Obligations.RegisterReads := by
  intro s index rest hidle hport
  rw [step_port hidle hport, ← readReg_regAt]
  rfl

/-! ### A write of a register (R22, R23) -/

/-- Keeping the low bits of a word is masking it. -/
theorem setWidth_extractLsb'_low (v : Word) {k : Nat} (hk : k ≤ 32) :
    (v.extractLsb' 0 k).setWidth 32 = v &&& BitVec.ofNat 32 (2 ^ k - 1) := by
  apply BitVec.eq_of_toNat_eq
  have hpow : 2 ^ k ≤ 2 ^ 32 := Nat.pow_le_pow_right (by decide) hk
  have hpos : 0 < 2 ^ k := Nat.two_pow_pos k
  have hmask : (2 ^ k - 1) % 2 ^ 32 = 2 ^ k - 1 := Nat.mod_eq_of_lt (by omega)
  have hlow : v.toNat % 2 ^ k < 2 ^ 32 := Nat.lt_of_lt_of_le (Nat.mod_lt _ hpos) hpow
  rw [BitVec.toNat_and, BitVec.toNat_ofNat, hmask, Nat.and_two_pow_sub_one_eq_mod, BitVec.toNat_setWidth,
    BitVec.extractLsb'_toNat, Nat.shiftRight_zero, Nat.mod_eq_of_lt hlow]

theorem and_allOnes_word (v : Word) : v &&& 0xFFFFFFFF#32 = v := BitVec.and_allOnes

/-- The bank after a write of the register at an offset. -/
theorem bankWords_storeReg (index : BitVec 5) (v : Word) (s : State) :
    bankWords (storeReg (regAt index) v s) =
      if writeMask index.toNat = 0 then bankWords s
      else (bankWords s).set index.toNat (v &&& writeMask index.toNat) := by
  have hlt := index.isLt
  unfold regAt
  generalize index.toNat = n at hlt ⊢
  have hctrl : (v.extractLsb' 0 2).setWidth 32 = v &&& 3 := setWidth_extractLsb'_low v (by decide)
  have hbright : (v.extractLsb' 0 16).setWidth 32 = v &&& 0xFFFF#32 := setWidth_extractLsb'_low v (by decide)
  interval_cases n <;> simp [writeMask, storeReg, bankWords, hctrl, hbright, and_allOnes_word]

/-- A write of a register changes writable registers only. -/
theorem storeReg_frame (r : Reg) (v : Word) (s : State) :
    storeReg r v s =
      { s with
        ctrl := (storeReg r v s).ctrl, width := (storeReg r v s).width, height := (storeReg r v s).height
        stride := (storeReg r v s).stride, rawLen := (storeReg r v s).rawLen, rgbLen := (storeReg r v s).rgbLen
        brightness := (storeReg r v s).brightness, name0 := (storeReg r v s).name0, name1 := (storeReg r v s).name1
        name2 := (storeReg r v s).name2, name3 := (storeReg r v s).name3 } := by
  cases r <;> rfl

/-- Settles O15: on a ready engine the access is `storeReg` of the register at the offset. -/
theorem registerWrites : Obligations.RegisterWrites := by
  intro s index v rest hidle hs hindex hport
  have hrun : step s = .next (storeReg (regAt index) v { s with port := rest }) := by
    rw [step_port hidle hport, hostStep, if_neg hindex, hostAccess, writeReg, if_neg (by simp [hs])]
  exact ⟨_, hrun, bankWords_storeReg index v { s with port := rest }, storeReg_frame _ v { s with port := rest }⟩

/-! ### The memories (R40, R64) -/

theorem readRaw_writeRaw (a b : Nat) (v : Byte) (s : State) :
    readRaw (writeRaw a v s) b = if b = a then v else readRaw s b := by
  split
  · next h => rw [h, readRaw_writeRaw_same]
  · next h => exact readRaw_writeRaw_other v s h

theorem readRgb_writeRgb (a b : Nat) (v : Byte) (s : State) :
    readRgb (writeRgb a v s) b = if b = a then v else readRgb s b := by
  split
  · next h => rw [h, readRgb_writeRgb_same]
  · next h => exact readRgb_writeRgb_other v s h

section
variable {s : State} {a : Word}

theorem hostStep_rawWrite (v : Byte) (h : a.toNat < s.rawSize.toNat) :
    hostStep (.rawWrite a v) s = .next (writeRaw a.toNat v s) := if_pos h

theorem hostStep_rgbWrite (v : Byte) (h : a.toNat < s.rgbSize.toNat) :
    hostStep (.rgbWrite a v) s = .next (writeRgb a.toNat v s) := if_pos h

theorem hostStep_rawRead (h : a.toNat < s.rawSize.toNat) :
    hostStep (.rawRead a) s = .next { s with rdata := (readRaw s a.toNat).setWidth 32 } := by
  rw [← append_zero_eq_setWidth]; exact if_pos h

theorem hostStep_rgbRead (h : a.toNat < s.rgbSize.toNat) :
    hostStep (.rgbRead a) s = .next { s with rdata := (readRgb s a.toNat).setWidth 32 } := by
  rw [← append_zero_eq_setWidth]; exact if_pos h

end

/-- Settles O16: the four accesses, each inside its memory. -/
theorem hostMemory : Obligations.HostMemory := by
  intro s a v rest hidle
  refine ⟨fun ha => ⟨fun hport => ?_, fun hport => ?_⟩, fun ha => ⟨fun hport => ?_, fun hport => ?_⟩⟩ <;>
    rw [step_port hidle hport]
  · exact ⟨_, hostStep_rawWrite v ha, rfl, fun b => readRaw_writeRaw a.toNat b v { s with port := rest }⟩
  · exact hostStep_rawRead ha
  · exact ⟨_, hostStep_rgbWrite v ha, rfl, fun b => readRgb_writeRgb a.toNat b v { s with port := rest }⟩
  · exact hostStep_rgbRead ha

/-- Settles O17: each access looks at the size first. -/
theorem hostOutsideFaults : Obligations.HostOutsideFaults := by
  intro s a v rest hidle
  constructor <;> rintro ha (hport | hport) <;> rw [step_port hidle hport] <;> exact if_neg (Nat.not_lt.2 ha)

/-! ### Reset (R43) -/

/-- Settles O12: the registers, the slots and the registry are evaluated; no byte of a memory is listed, so each reads as
the free byte of its address. -/
theorem resetState : Obligations.ResetState :=
  ⟨by decide, rfl, rfl, rfl, rfl, rfl, by decide, fun _ => rfl, fun _ => rfl⟩

end Sys2Proof.HostView
end

section
/-! PROOFS. The eight kernel rows (R152 to R162, R200 to R208). A row whose plane and output fit the memories is one
raster pass over `kernelPixel`, proved once for all rows; each statement is then the equation of its pixel with the table
of its rule. -/

namespace Sys2Proof.Kernels

open Sys2Proof.Machine Sys2Proof.DispatcherBayer

/-! ### The border rule (R152) -/

theorem mirror_inside {c n : Nat} {d : Int} (h : 0 ≤ (c : Int) + d ∧ (c : Int) + d < n) :
    (mirror c d n : Int) = c + d := by
  rw [mirror, if_pos h]; omega

theorem mirror_reflected {c n : Nat} {d : Int} (h : ¬(0 ≤ (c : Int) + d ∧ (c : Int) + d < n))
    (h' : 0 ≤ (c : Int) - d ∧ (c : Int) - d < n) : (mirror c d n : Int) = c - d := by
  rw [mirror, if_neg h, if_pos h']; omega

theorem mirror_stays {c n : Nat} {d : Int} (h : ¬(0 ≤ (c : Int) + d ∧ (c : Int) + d < n))
    (h' : ¬(0 ≤ (c : Int) - d ∧ (c : Int) - d < n)) : mirror c d n = c := by
  rw [mirror, if_neg h, if_neg h']

/-- On an axis of two or more the nearest neighbour has one of its two mirror positions inside. -/
theorem mirror_adjacent {c n : Nat} {d : Int} (hc : c < n) (hn : 2 ≤ n) (hd : -1 ≤ d) (hd' : d ≤ 1) :
    (mirror c d n : Int) = c + d ∨ (mirror c d n : Int) = c - d := by
  by_cases h : 0 ≤ (c : Int) + d ∧ (c : Int) + d < n
  · exact .inl (mirror_inside h)
  · exact .inr (mirror_reflected h (by omega))

/-- Settles O46: the three cases of the rule, each read off the definition; a sample is its container. -/
theorem neighbourRule : Obligations.NeighbourRule := by
  refine ⟨fun c d n hc => ⟨mirror_inside, mirror_reflected, mirror_stays, mirror_lt d hc, ?_, ?_, ?_⟩,
    fun _ _ _ _ _ _ => rfl, fun s y x => ⟨?_, ?_⟩⟩
  · exact fun hn hd hd' => mirror_parity hc hn ⟨hd, hd'⟩
  · exact fun hn hd hd' => mirror_adjacent hc hn hd hd'
  · intro hn heven hd hd' hplus hminus
    omega
  · simpa [containerBytes] using sample_eq_containerAt .d8 s y x
  · simpa [containerBytes] using sample_eq_containerAt .d10 s y x

/-! ### A row is one raster pass (R155, R236) -/

/-- A pass leaves `SP` at its last pixel (R236). -/
theorem paint_sp (ph : Phase) (w : Nat) (pixel : Nat → Nat → Rgb) (n k : Nat) (s : State) :
    (paint ph w pixel (n + 1) k s).sp = ⟨ph, BitVec.ofNat 32 ((k + n) / w), BitVec.ofNat 32 ((k + n) % w)⟩ := by
  induction n generalizing k s with
  | zero => rfl
  | succ n ih => rw [paint, ih, Nat.add_right_comm, Nat.add_assoc]

theorem ofNat_toNat_sub_one {v : Word} (h : 0 < v.toNat) : BitVec.ofNat 32 (v.toNat - 1) = v - 1 := by
  bv_omega

theorem kernelRan_kernelPass (pixel : State → Nat → Nat → Rgb) (s : State) : KernelRan s (kernelPass pixel s) := by
  refine ⟨kernelPass_frame pixel s, fun hw hh => ?_⟩
  have hcount : pixelCount s = (s.height.toNat - 1) * s.width.toNat + (s.width.toNat - 1) + 1 := by
    rw [pixelCount, Nat.mul_comm, Nat.sub_mul]
    have := Nat.mul_le_mul_right s.width.toNat hh
    omega
  have hlast : s.width.toNat - 1 < s.width.toNat := by omega
  rw [kernelPass, hcount, paint_sp, Nat.zero_add, raster_div hlast, raster_mod hlast, ofNat_toNat_sub_one hh,
    ofNat_toNat_sub_one hw]

theorem planeFits_of_kernelFits {d : Depth} {s : State} (h : KernelFits s (containerBytes d)) :
    planeFits (bayerClass d) s = true := by
  have hsource : sourceBytes (bayerClass d) s ≤ s.rawSize.toNat := by
    cases d <;> simpa [sourceBytes, srcNeed, bayerClass, containerBytes] using h.1
  have houtput : outputBytes s ≤ s.rgbSize.toNat := h.2
  simp [planeFits, hsource, houtput]

/-- `t` is `s` after a kernel row with the given pixels: `RGB` and `SP` changed only, and the image is theirs. -/
def RowShows (s t : State) (pixel : Nat → Nat → Rgb) : Prop :=
  KernelRan s t ∧ (∀ a, readRaw t a = readRaw s a) ∧ Painted s t pixel

/-- Every row whose plane and output fit the memories runs and shows its pixels. -/
theorem exec_rowShows {a : Alg} {d : Depth} {i : Instr} {s : State} (hi : kernelInstr a d = some i)
    (hfit : KernelFits s (containerBytes d)) : ∃ t, exec i s = .next t ∧ RowShows s t (kernelPixel a d s) := by
  refine ⟨kernelPass (kernelPixel a d) s, ?_, kernelRan_kernelPass _ s, fun b => readRaw_congr (paint_raw ..) b,
    painted_paint (u := s) rfl rfl rfl rfl rfl⟩
  rw [exec_of_kernelInstr hi, runKernelRow, if_pos (planeFits_of_kernelFits hfit)]

/-- The same with the pixels written another way. -/
theorem exec_rowShows_of_eq {a : Alg} {d : Depth} {i : Instr} {s : State} {pixel : Nat → Nat → Rgb}
    (hi : kernelInstr a d = some i) (hpixel : ∀ y x, kernelPixel a d s y x = pixel y x)
    (hfit : KernelFits s (containerBytes d)) : ∃ t, exec i s = .next t ∧ RowShows s t pixel := by
  obtain ⟨t, ht, hran, hraw, himage⟩ := exec_rowShows hi hfit
  exact ⟨t, ht, hran, hraw, himage.congr fun y x _ _ => hpixel y x⟩

/-! ### The tables by kind of site (R150, R154) -/

/-- What a sample of a depth is divided by to give its output byte (R154). -/
def outDivisor : Depth → Nat
  | .d8 => 1
  | .d10 => 4

theorem out8_eq (d : Depth) (v : Nat) : out8 d v = BitVec.ofNat 8 (v / outDivisor d) := by
  cases d with
  | d8 => rw [outDivisor, Nat.div_one]; rfl
  | d10 => rfl

/-- The row of a table for a kind of site. -/
def kindRow (k : SiteKind) (gr r b gb : Nat × Nat × Nat) : Nat × Nat × Nat :=
  match k with
  | .gr => gr
  | .r => r
  | .b => b
  | .gb => gb

/-- The pixel of a table row. -/
def rowPixel (d : Depth) (row : Nat × Nat × Nat) : Rgb := outPixel d row.1 row.2.1 row.2.2

/-- `sitePixel` chooses the row of its table by the kind of the site. -/
theorem sitePixel_eq (d : Depth) (y x : Nat) (gr r b gb : Nat × Nat × Nat) :
    sitePixel (outDivisor d) y x gr r b gb = rowPixel d (kindRow (siteKind y x) gr r b gb) := by
  unfold sitePixel siteKind rowPixel outPixel
  simp only [out8_eq]
  split <;> split <;> rfl

section
variable (d : Depth) (s : State) (y x : Nat)

theorem cottnoipPixel_eq :
    cottnoipPixel d s y x =
      let c := sample d s y x
      let h := nb d s y x 0 1
      let v := nb d s y x 1 0
      let q := nb d s y x 1 1
      sitePixel (outDivisor d) y x (h, c, v) (c, h, q) (q, h, c) (v, c, h) := by
  simp only [sitePixel_eq, cottnoipPixel]
  cases siteKind y x <;> rfl

theorem cottPixel_eq :
    cottPixel d s y x =
      let c := sample d s y x
      let h := nb d s y x 0 1
      let v := nb d s y x 1 0
      let q := nb d s y x 1 1
      sitePixel (outDivisor d) y x (h, (c + q + 1) / 2, v) (c, (h + v + 1) / 2, q) (q, (h + v + 1) / 2, c)
        (v, (c + q + 1) / 2, h) := by
  simp only [sitePixel_eq, cottPixel]
  cases siteKind y x <;> rfl

theorem horipPixel_eq :
    horipPixel d s y x =
      let yp := if y + 1 < s.height.toNat then y + 1 else y - 1
      let c := sample d s y x
      let m := (nb d s y x 0 (-1) + nb d s y x 0 1 + 1) / 2
      let pc := sample d s yp x
      let pm := (sample d s yp (mirror x (-1) s.width.toNat) + sample d s yp (mirror x 1 s.width.toNat) + 1) / 2
      sitePixel (outDivisor d) y x (m, c, pc) (c, m, pm) (pm, m, c) (pc, c, m) := by
  simp only [sitePixel_eq, horipPixel]
  cases siteKind y x <;> rfl

theorem ipPixel_eq :
    ipPixel d s y x =
      let n := nb d s y x
      let c := sample d s y x
      let hor := (n 0 (-1) + n 0 1 + 1) / 2
      let ver := (n (-1) 0 + n 1 0 + 1) / 2
      let orth := (n (-1) 0 + n 1 0 + n 0 (-1) + n 0 1 + 2) / 4
      let dia := (n (-1) (-1) + n (-1) 1 + n 1 (-1) + n 1 1 + 2) / 4
      sitePixel (outDivisor d) y x (hor, c, ver) (c, orth, dia) (dia, orth, c) (ver, c, hor) := by
  simp only [sitePixel_eq, ipPixel]
  cases siteKind y x <;> rfl

/-- The estimates in the terms of R204. -/
theorem est2_eq_blend (l w : Nat) (dt : Int) : est2 d l w dt = blend (maxSample d) 512 l w dt := by
  simp only [est2, clipSample, floorShift, blend]; norm_num

@[inherit_doc est2_eq_blend]
theorem est4_eq_blend (l w : Nat) (dt : Int) : est4 d l w dt = blend (maxSample d) 256 l w dt := by
  simp only [est4, clipSample, floorShift, blend]; norm_num

theorem adaptivePixel_eq (k : Weights) :
    adaptivePixel k d s y x = adaptiveShown d (outDivisor d) (maxSample d) k.rg k.bg k.gr k.br k.gb k.rb s y x := by
  simp only [adaptivePixel, adaptiveShown, sitePixel_eq, detail, est2_eq_blend, est4_eq_blend]
  cases siteKind y x <;> simp [kindRow, rowPixel, diagSum, farSum]

end

/-! ### The statements -/

/-- Settles O40: both rows show the table of R156. -/
theorem kernelCottnoip : Obligations.KernelCottnoip := fun s =>
  ⟨exec_rowShows_of_eq (a := .cottnoip) (d := .d8) rfl (cottnoipPixel_eq .d8 s),
    exec_rowShows_of_eq (a := .cottnoip) (d := .d10) rfl (cottnoipPixel_eq .d10 s)⟩

/-- Settles O41: the row shows the table of R158. -/
theorem kernelCott : Obligations.KernelCott := fun s =>
  exec_rowShows_of_eq (a := .cott) (d := .d8) rfl (cottPixel_eq .d8 s)

/-- Settles O42: the row shows the table of R160. -/
theorem kernelHorip : Obligations.KernelHorip := fun s =>
  exec_rowShows_of_eq (a := .horip) (d := .d8) rfl (horipPixel_eq .d8 s)

/-- Settles O43: the row shows the table of R162. -/
theorem kernelIp : Obligations.KernelIp := fun s =>
  exec_rowShows_of_eq (a := .ip) (d := .d8) rfl (ipPixel_eq .d8 s)

/-- Settles O44: both rows show the blend with the weights of `SHARPNESS`. -/
theorem kernelGptm : Obligations.KernelGptm := fun s =>
  ⟨exec_rowShows_of_eq (a := .gptm) (d := .d8) rfl fun y x => adaptivePixel_eq .d8 s y x (gptmWeights s.sharpness),
    exec_rowShows_of_eq (a := .gptm) (d := .d10) rfl fun y x => adaptivePixel_eq .d10 s y x (gptmWeights s.sharpness)⟩

/-- Settles O45: the row shows the blend with the base constants. -/
theorem kernelGptmFast : Obligations.KernelGptmFast := fun s =>
  exec_rowShows_of_eq (a := .gptmFast) (d := .d8) rfl fun y x => adaptivePixel_eq .d8 s y x baseWeights

end Sys2Proof.Kernels
end

section
/-! PROOFS. Three laws of the kernels: known samples are kept (R164, R210), a flat plane comes out flat (R165 (a), R210),
raised samples lower no output byte (R165 (b)). Each is a fact about the pixel of one site, carried to the bytes of the
output by what a row shows. -/

namespace Sys2Proof.Kernels

open Sys2Proof.Machine Sys2Proof.DispatcherCommon Sys2Proof.DispatcherBayer

/-! ### The rows the statements list (R98) -/

/-- The kernel rows with their container sizes and their divisors. -/
def rowTable : List (Instr × Depth × Nat × Nat) :=
  [(Instr.cottnoip8, Depth.d8, 1, 1), (.cottnoip10, .d10, 2, 4), (.cott8, .d8, 1, 1), (.horip8, .d8, 1, 1),
   (.ip8, .d8, 1, 1), (.gptm8, .d8, 1, 1), (.gptm10, .d10, 2, 4), (.gptmFast8, .d8, 1, 1)]

/-- Each listed row is that of an algorithm, with the numbers of its depth. -/
theorem kernelInstr_of_mem_rowTable {i : Instr} {d : Depth} {p q : Nat} (h : (i, d, p, q) ∈ rowTable) :
    ∃ a, kernelInstr a d = some i ∧ p = containerBytes d ∧ q = outDivisor d := by
  simp only [rowTable, List.mem_cons, List.not_mem_nil, or_false, Prod.mk.injEq] at h
  obtain ⟨rfl, rfl, rfl, rfl⟩ | ⟨rfl, rfl, rfl, rfl⟩ | ⟨rfl, rfl, rfl, rfl⟩ | ⟨rfl, rfl, rfl, rfl⟩ |
    ⟨rfl, rfl, rfl, rfl⟩ | ⟨rfl, rfl, rfl, rfl⟩ | ⟨rfl, rfl, rfl, rfl⟩ | ⟨rfl, rfl, rfl, rfl⟩ := h
  exacts [⟨.cottnoip, rfl, rfl, rfl⟩, ⟨.cottnoip, rfl, rfl, rfl⟩, ⟨.cott, rfl, rfl, rfl⟩, ⟨.horip, rfl, rfl, rfl⟩,
    ⟨.ip, rfl, rfl, rfl⟩, ⟨.gptm, rfl, rfl, rfl⟩, ⟨.gptm, rfl, rfl, rfl⟩, ⟨.gptmFast, rfl, rfl, rfl⟩]

/-! ### Known samples (R164, R210) -/

theorem siteKind_red {y x : Nat} (hy : y % 2 = 0) (hx : x % 2 = 1) : siteKind y x = .r := by
  simp [siteKind, hy, hx]

theorem siteKind_blue {y x : Nat} (hy : y % 2 = 1) (hx : x % 2 = 0) : siteKind y x = .b := by
  simp [siteKind, hy, hx]

theorem siteKind_green {y x : Nat} (h : y % 2 = x % 2) : siteKind y x = .gr ∨ siteKind y x = .gb := by
  obtain hx | hx := Nat.mod_two_eq_zero_or_one x
  · simp [siteKind, h, hx]
  · simp [siteKind, h, hx]

section
variable (a : Alg) (d : Depth) (s : State) {y x : Nat}

theorem kernelPixel_red (h : siteKind y x = .r) : (kernelPixel a d s y x).r = out8 d (sample d s y x) := by
  cases a <;>
    simp [kernelPixel, cottnoipPixel, cottPixel, horipPixel, ipPixel, gptmPixel, gptmFastPixel, adaptivePixel, h,
      outPixel]

theorem kernelPixel_blue (h : siteKind y x = .b) : (kernelPixel a d s y x).b = out8 d (sample d s y x) := by
  cases a <;>
    simp [kernelPixel, cottnoipPixel, cottPixel, horipPixel, ipPixel, gptmPixel, gptmFastPixel, adaptivePixel, h,
      outPixel]

/-- `cott` alone replaces the green of a green site, by a mean of two greens (R158). -/
theorem kernelPixel_green (ha : a ≠ .cott) (h : siteKind y x = .gr ∨ siteKind y x = .gb) :
    (kernelPixel a d s y x).g = out8 d (sample d s y x) := by
  obtain h | h := h <;> cases a <;>
    simp [kernelPixel, cottnoipPixel, horipPixel, ipPixel, gptmPixel, gptmFastPixel, adaptivePixel, h,
      outPixel] at ha ⊢

end

/-- Where the red and the blue byte of a shown pixel stand (R232). -/
theorem red_blue_of_shown {t : State} {w y x : Nat} {swap : Bool} {p : Rgb} (h : PixelShown t w swap y x p) :
    readRgb t (3 * (y * w + x) + if swap then 2 else 0) = p.r ∧
      readRgb t (3 * (y * w + x) + (2 - if swap then 2 else 0)) = p.b := by
  obtain ⟨h0, -, h2⟩ := h
  cases swap with
  | false => exact ⟨h0, h2⟩
  | true => exact ⟨h2, h0⟩

/-- Settles O47: the own channel of each kind of site, in its byte. -/
theorem knownSamplesKept : Obligations.KnownSamplesKept := by
  intro s i d p q hrow hfit
  obtain ⟨a, hi, rfl, rfl⟩ := kernelInstr_of_mem_rowTable hrow
  obtain ⟨t, ht, -, -, himage, -⟩ := exec_rowShows hi hfit
  refine ⟨t, ht, fun y x hy hx => ?_⟩
  have hshown := himage y x hy hx
  obtain ⟨hred, hblue⟩ := red_blue_of_shown hshown
  refine ⟨fun hgreen hne => ?_, fun hy hx => ?_, fun hy hx => ?_⟩
  · have ha : a ≠ .cott := by
      rintro rfl
      cases d <;> cases hi
      exact hne rfl
    rw [hshown.2.1, kernelPixel_green a d s ha (siteKind_green hgreen), out8_eq]
  · rw [hred, kernelPixel_red a d s (siteKind_red hy hx), out8_eq]
  · rw [hblue, kernelPixel_blue a d s (siteKind_blue hy hx), out8_eq]

/-! ### The bytes of an image (R67, R232) -/

/-- Byte `j` of a stored pixel. -/
def storedByte (swap : Bool) (p : Rgb) (j : Nat) : Byte :=
  if j = 0 then (if swap then p.b else p.r) else if j = 1 then p.g else if swap then p.r else p.b

/-- The pixel to which an address of the output belongs. -/
theorem site_of_address {w h a : Nat} (ha : a < 3 * w * h) : a / 3 / w < h ∧ a / 3 % w < w := by
  rw [Nat.mul_assoc] at ha
  have hk : a / 3 < w * h := by omega
  exact ⟨Nat.div_lt_of_lt_mul hk, Nat.mod_lt _ (Nat.pos_of_mul_pos_right (Nat.zero_lt_of_lt hk))⟩

theorem readRgb_of_painted {s t : State} {pixel : Nat → Nat → Rgb} (h : Painted s t pixel) {a : Nat}
    (ha : a < 3 * s.width.toNat * s.height.toNat) :
    readRgb t a =
      storedByte (s.ctrl.getLsbD 0) (pixel (a / 3 / s.width.toNat) (a / 3 % s.width.toNat)) (a % 3) := by
  rw [Nat.mul_assoc] at ha
  obtain ⟨h0, h1, h2⟩ := shownAt_of_painted h (k := a / 3) (by omega)
  obtain hr | hr | hr : a % 3 = 0 ∨ a % 3 = 1 ∨ a % 3 = 2 := by omega
  · rw [hr, show readRgb t a = readRgb t (3 * (a / 3)) by congr 1; omega, h0]; rfl
  · rw [hr, show readRgb t a = readRgb t (3 * (a / 3) + 1) by congr 1; omega, h1]; rfl
  · rw [hr, show readRgb t a = readRgb t (3 * (a / 3) + 2) by congr 1; omega, h2]; rfl

theorem storedByte_grey (swap : Bool) (v : Byte) (j : Nat) : storedByte swap (greyPixel v) j = v := by
  simp [storedByte, greyPixel]

/-- No channel of the first pixel is above that of the second. -/
def RgbLe (p q : Rgb) : Prop := p.r.toNat ≤ q.r.toNat ∧ p.g.toNat ≤ q.g.toNat ∧ p.b.toNat ≤ q.b.toNat

theorem storedByte_mono {p q : Rgb} (h : RgbLe p q) (swap : Bool) (j : Nat) :
    (storedByte swap p j).toNat ≤ (storedByte swap q j).toNat := by
  obtain ⟨hr, hg, hb⟩ := h
  unfold storedByte
  cases swap <;> split_ifs <;> assumption

/-! ### A flat plane (R165, R210) -/

section
variable {d : Depth} {s : State} {k : Nat}
  (hflat : ∀ y x, y < s.height.toNat → x < s.width.toNat → sample d s y x = k)

theorem est2_of_equal {l : Nat} (hl : l = 2 * k) (hk : k ≤ maxSample d) (w : Nat) : est2 d l w 0 = k := by
  rw [est2_flat w (by omega)]; omega

theorem est4_of_equal {l : Nat} (hl : l = 4 * k) (hk : k ≤ maxSample d) (w : Nat) : est4 d l w 0 = k := by
  rw [est4_flat w (by omega)]; omega

include hflat

/-- Every neighbour lies in the plane (R152). -/
theorem nb_flat {y x : Nat} (hy : y < s.height.toNat) (hx : x < s.width.toNat) (dy dx : Int) :
    nb d s y x dy dx = k := hflat _ _ (mirror_lt dy hy) (mirror_lt dx hx)

theorem detail_flat {y x : Nat} (hy : y < s.height.toNat) (hx : x < s.width.toNat) : detail d s y x = 0 := by
  have hdiag : 4 * (sample d s y x : Int) - diagSum d s y x = 0 := by
    simp only [diagSum, nb_flat hflat hy hx, hflat y x hy hx]; omega
  have hfar : 4 * (sample d s y x : Int) - farSum d s y x = 0 := by
    simp only [farSum, nb_flat hflat hy hx, hflat y x hy hx]; omega
  unfold detail
  cases siteKind y x <;> assumption

/-- With no detail the blend is the mean, whatever the weights are (R210). -/
theorem adaptivePixel_flat (hk : k ≤ maxSample d) (wt : Weights) {y x : Nat} (hy : y < s.height.toNat)
    (hx : x < s.width.toNat) : adaptivePixel wt d s y x = greyPixel (out8 d k) := by
  have h2 (w : Nat) : est2 d (k + k) w 0 = k := est2_of_equal (by omega) hk w
  have horth (w : Nat) : est4 d (k + k + (k + k)) w 0 = k := est4_of_equal (by omega) hk w
  have hdiag (w : Nat) : est4 d (k + k + k + k) w 0 = k := est4_of_equal (by omega) hk w
  simp only [adaptivePixel, diagSum, detail_flat hflat hy hx, nb_flat hflat hy hx, hflat y x hy hx, h2, horth, hdiag]
  cases siteKind y x <;> rfl

theorem kernelPixel_flat (hk : k ≤ maxSample d) (a : Alg) {y x : Nat} (hy : y < s.height.toNat)
    (hx : x < s.width.toNat) : kernelPixel a d s y x = greyPixel (out8 d k) := by
  have hc : sample d s y x = k := hflat y x hy hx
  have hnb := nb_flat hflat hy hx
  cases a with
  | cottnoip =>
    simp only [kernelPixel, cottnoipPixel, hc, hnb]
    cases siteKind y x <;> rfl
  | cott =>
    simp only [kernelPixel, cottPixel, hc, hnb, avg2_self]
    cases siteKind y x <;> rfl
  | horip =>
    have hpartner (x' : Nat) (hx' : x' < s.width.toNat) : sample d s (partnerRow y s.height.toNat) x' = k :=
      hflat _ _ (partnerRow_lt hy) hx'
    simp only [kernelPixel, horipPixel, hc, hnb, hpartner _ hx, hpartner _ (mirror_lt _ hx), avg2_self]
    cases siteKind y x <;> rfl
  | ip =>
    simp only [kernelPixel, ipPixel, hc, hnb, avg2_self, avg4_self]
    cases siteKind y x <;> rfl
  | gptm => exact adaptivePixel_flat hflat hk _ hy hx
  | gptmFast => exact adaptivePixel_flat hflat hk _ hy hx

end

/-- Settles O48: every pixel is the grey of the one sample value. -/
theorem flatPlane : Obligations.FlatPlane := by
  intro s i d p q k hrow hfit hk hflat
  obtain ⟨a, hi, rfl, rfl⟩ := kernelInstr_of_mem_rowTable hrow
  obtain ⟨t, ht, -, -, himage⟩ := exec_rowShows hi hfit
  have hmax : k ≤ maxSample d := by cases d <;> simp only [outDivisor, maxSample] at hk ⊢ <;> omega
  refine ⟨t, ht, fun b hb => ?_⟩
  obtain ⟨hy, hx⟩ := site_of_address hb
  rw [readRgb_of_painted himage hb, kernelPixel_flat hflat hmax a hy hx, storedByte_grey, out8_eq]

/-! ### Raised samples (R165) -/

/-- The first value is not above the second, which is an 8-bit sample. -/
def Below (v v' : Nat) : Prop := v ≤ v' ∧ v' ≤ 255

theorem Below.avg2 {a a' b b' : Nat} (ha : Below a a') (hb : Below b b') : Below (avg2 a b) (avg2 a' b') := by
  unfold Below Machine.avg2 at *; omega

theorem Below.avg4 {a a' b b' c c' d d' : Nat} (ha : Below a a') (hb : Below b b') (hc : Below c c')
    (hd : Below d d') : Below (avg4 a b c d) (avg4 a' b' c' d') := by
  unfold Below Machine.avg4 at *; omega

theorem Below.out8 {v v' : Nat} (h : Below v v') : (out8 .d8 v).toNat ≤ (out8 .d8 v').toNat := by
  obtain ⟨hle, hmax⟩ := h
  simp only [Machine.out8, BitVec.toNat_ofNat]; omega

theorem rgbLe_outPixel {r r' g g' b b' : Nat} (hr : Below r r') (hg : Below g g') (hb : Below b b') :
    RgbLe (outPixel .d8 r g b) (outPixel .d8 r' g' b') := ⟨hr.out8, hg.out8, hb.out8⟩

section
variable {s s' : State} (hw : s'.width = s.width) (hh : s'.height = s.height)
  (hs : ∀ y x, Below (sample .d8 s y x) (sample .d8 s' y x))
include hw hh hs

theorem below_nb (y x : Nat) (dy dx : Int) : Below (nb .d8 s y x dy dx) (nb .d8 s' y x dy dx) := by
  rw [nb, nb, hw, hh]; exact hs _ _

theorem rgbLe_cottnoip (y x : Nat) : RgbLe (cottnoipPixel .d8 s y x) (cottnoipPixel .d8 s' y x) := by
  have hnb := below_nb hw hh hs y x
  unfold cottnoipPixel
  cases siteKind y x with
  | gr => exact rgbLe_outPixel (hnb 0 1) (hs y x) (hnb 1 0)
  | r => exact rgbLe_outPixel (hs y x) (hnb 0 1) (hnb 1 1)
  | b => exact rgbLe_outPixel (hnb 1 1) (hnb 0 1) (hs y x)
  | gb => exact rgbLe_outPixel (hnb 1 0) (hs y x) (hnb 0 1)

theorem rgbLe_cott (y x : Nat) : RgbLe (cottPixel .d8 s y x) (cottPixel .d8 s' y x) := by
  have hnb := below_nb hw hh hs y x
  unfold cottPixel
  cases siteKind y x with
  | gr => exact rgbLe_outPixel (hnb 0 1) ((hs y x).avg2 (hnb 1 1)) (hnb 1 0)
  | r => exact rgbLe_outPixel (hs y x) ((hnb 0 1).avg2 (hnb 1 0)) (hnb 1 1)
  | b => exact rgbLe_outPixel (hnb 1 1) ((hnb 0 1).avg2 (hnb 1 0)) (hs y x)
  | gb => exact rgbLe_outPixel (hnb 1 0) ((hs y x).avg2 (hnb 1 1)) (hnb 0 1)

theorem rgbLe_horip (y x : Nat) : RgbLe (horipPixel .d8 s y x) (horipPixel .d8 s' y x) := by
  have hrow := (below_nb hw hh hs y x 0 (-1)).avg2 (below_nb hw hh hs y x 0 1)
  have hpartner (x' : Nat) : Below (sample .d8 s (partnerRow y s.height.toNat) x')
      (sample .d8 s' (partnerRow y s.height.toNat) x') := hs _ _
  have hmean := (hpartner (mirror x (-1) s.width.toNat)).avg2 (hpartner (mirror x 1 s.width.toNat))
  unfold horipPixel
  rw [hw, hh]
  cases siteKind y x with
  | gr => exact rgbLe_outPixel hrow (hs y x) (hpartner x)
  | r => exact rgbLe_outPixel (hs y x) hrow hmean
  | b => exact rgbLe_outPixel hmean hrow (hs y x)
  | gb => exact rgbLe_outPixel (hpartner x) (hs y x) hrow

theorem rgbLe_ip (y x : Nat) : RgbLe (ipPixel .d8 s y x) (ipPixel .d8 s' y x) := by
  have hnb := below_nb hw hh hs y x
  have hhor := (hnb 0 (-1)).avg2 (hnb 0 1)
  have hver := (hnb (-1) 0).avg2 (hnb 1 0)
  have horth := (hnb (-1) 0).avg4 (hnb 1 0) (hnb 0 (-1)) (hnb 0 1)
  have hdiag := (hnb (-1) (-1)).avg4 (hnb (-1) 1) (hnb 1 (-1)) (hnb 1 1)
  unfold ipPixel
  cases siteKind y x with
  | gr => exact rgbLe_outPixel hhor (hs y x) hver
  | r => exact rgbLe_outPixel (hs y x) horth hdiag
  | b => exact rgbLe_outPixel hdiag horth (hs y x)
  | gb => exact rgbLe_outPixel hver (hs y x) hhor

/-- The four kernels without a detail term are monotonic in every sample. -/
theorem rgbLe_kernelPixel {a : Alg} (ha : a = .cottnoip ∨ a = .cott ∨ a = .horip ∨ a = .ip) (y x : Nat) :
    RgbLe (kernelPixel a .d8 s y x) (kernelPixel a .d8 s' y x) := by
  obtain rfl | rfl | rfl | rfl := ha
  · exact rgbLe_cottnoip hw hh hs y x
  · exact rgbLe_cott hw hh hs y x
  · exact rgbLe_horip hw hh hs y x
  · exact rgbLe_ip hw hh hs y x

end

/-- Settles O49: both rows show their pixels in the same places and the same byte order. -/
theorem kernelMonotone : Obligations.KernelMonotone := by
  intro s m i hmem hfit hraw
  obtain ⟨a, ha, hi⟩ : ∃ a : Alg, (a = .cottnoip ∨ a = .cott ∨ a = .horip ∨ a = .ip) ∧
      kernelInstr a .d8 = some i := by
    simp only [List.mem_cons, List.not_mem_nil, or_false] at hmem
    obtain rfl | rfl | rfl | rfl := hmem
    exacts [⟨.cottnoip, by simp, rfl⟩, ⟨.cott, by simp, rfl⟩, ⟨.horip, by simp, rfl⟩, ⟨.ip, by simp, rfl⟩]
  obtain ⟨t, ht, -, -, himage⟩ := exec_rowShows hi hfit
  obtain ⟨t', ht', -, -, himage'⟩ := exec_rowShows (s := { s with raw := m }) hi hfit
  have hsample (y x : Nat) : Below (sample .d8 s y x) (sample .d8 { s with raw := m } y x) :=
    ⟨hraw (sampleAddr .d8 s y x), sample8_le _ y x⟩
  refine ⟨t, t', ht, ht', fun b hb => ?_⟩
  rw [readRgb_of_painted himage hb, readRgb_of_painted himage' hb]
  exact storedByte_mono (rgbLe_kernelPixel (s := s) (s' := { s with raw := m }) rfl rfl hsample ha _ _) _ _

end Sys2Proof.Kernels
end
